-- ==== Sys2Proof/Word.lean ====
section
/-! DEFINITION. The data widths of the machine and the operand size (spec 00_scope.md R10). -/

namespace Sys2Proof

/-- "Byte integer 8 bits" (R10). -/
abbrev Byte := BitVec 8

/-- "Word integer 16 bits" (R10); also one instruction word (R90). -/
abbrev Word := BitVec 16

/-- "Longword integer 32 bits" (R10); also an address and a register. -/
abbrev Long := BitVec 32

/-- The operand size of an instruction (R11 `size`): 1, 2 or 4 bytes. -/
inductive Size where
  | byte
  | word
  | long
deriving DecidableEq, Repr

end Sys2Proof
end

