-- ==== Sys2Proof/Config.lean ====
section
/-! DEFINITION. What an implementation fixes (spec 00_scope.md R8, R9) and the free value the spec leaves open. A `Config`
is held in the state (`Machine.State.cfg`), so the model covers every configuration; no step changes it. -/

namespace Sys2Proof

/-- The four revisions of the instruction set (R2, R8 `ISA`). -/
inductive Isa where
  | a
  | aPlus
  | b
  | c
deriving DecidableEq, Repr

/-- The core versions (R8 `CORE`). -/
inductive CpuCore where
  | v2
  | v3
  | v4
  | v5
deriving DecidableEq, Repr

/-- The kinds of access the platform may refuse (R8 `refuses(addr, kind)`). -/
inductive AccessKind where
  | fetch
  | read
  | write
deriving DecidableEq, Repr

/-- One region of the platform's map in which accesses are refused (R381, D5): `size` bytes from `base`; the kinds of access
it refuses; whether it refuses supervisor and user accesses (the attributes of R50); and whether a refused write is reported
as an "attempted write to write-protected space" (R376, FS 1001) rather than an error on data write (FS 1000). -/
structure Region where
  base : Nat
  size : Nat
  fetch : Bool
  read : Bool
  write : Bool
  supervisor : Bool
  user : Bool
  writeProtect : Bool
deriving DecidableEq, Repr

/-- Which device-specific control registers exist (R8 `DEVICE_REGS`). -/
structure DeviceRegs where
  rombar0 : Bool
  rombar1 : Bool
  rambar0 : Bool
  rambar1 : Bool
  mbar : Bool
deriving DecidableEq, Repr

/-- What an opword assigned to no instruction does (R8 `reserved_encoding_behaviour`, R114). -/
inductive ReservedBehaviour where
  | trap
  | refuse
deriving DecidableEq, Repr

/-- When a refused operand write is reported (R8 `write_fault_mode`, R383). -/
inductive WriteFaultMode where
  | precise
  | imprecise
deriving DecidableEq, Repr

/-- What STLDSR and STOP do when bit 13 of their immediate is 0 (R8 `sr_imm_s_clear`, U12). -/
inductive SrImmSClear where
  | load
  | privilegeViolation
deriving DecidableEq, Repr

/-- The implementation parameters of R8 (all but the environment's streams `irq` and the reporting of imprecise write faults,
which are consumed as the machine runs and so stand in the state beside it). -/
structure Config where
  isa : Isa
  hasDiv : Bool
  hasUsp : Bool
  hasEuspBit : Bool
  hasFpu : Bool
  hasMac : Bool
  hasEmac : Bool
  hasEmacB : Bool
  hasMmu : Bool
  core : CpuCore
  deviceRegs : DeviceRegs
  reserved : ReservedBehaviour
  platform : List Region
  writeFaultMode : WriteFaultMode
  fsAddressError : BitVec 4
  srImmSClear : SrImmSClear
deriving DecidableEq, Repr

/-- The default configuration of R9, with the defaults of R8 for the parameters R9 does not name (log 1). -/
def Config.default : Config where
  isa := .c
  hasDiv := true
  hasUsp := true
  hasEuspBit := true
  hasFpu := false
  hasMac := false
  hasEmac := false
  hasEmacB := false
  hasMmu := false
  core := .v2
  deviceRegs := ⟨false, false, false, false, false⟩
  reserved := .refuse
  platform := []
  writeFaultMode := .precise
  fsAddressError := 4#4
  srImmSClear := .load

/-- The free values: USP when CACR[EUSP] goes from 0 to 1 "is any value" (93_implementation_defined.md U13). The n-th value
drawn is `freeWord n`; nothing constrains it (log 27). -/
opaque Config.freeWord : Nat → Long

end Sys2Proof
end

