-- ==== Sys2Proof/Machine/Bits.lean ====
section
/-! DEFINITION. Bit fields, widths and exact integers of operands. An operand of 8 or 16 bits is carried in a longword,
zero-extended (spec 00_scope.md R11, 10_state.md R21, R22). -/

namespace Sys2Proof

/-- The number of bytes of an operand. -/
def Size.bytes : Size → Nat
  | .byte => 1
  | .word => 2
  | .long => 4

/-- The number of bits `W` of an operand. -/
def Size.bits : Size → Nat
  | .byte => 8
  | .word => 16
  | .long => 32

/-- The low `W` bits, zero-extended. -/
def Size.trunc : Size → Long → Long
  | .byte, v => (v.setWidth 8).setWidth 32
  | .word, v => (v.setWidth 16).setWidth 32
  | .long, v => v

/-- The low `W` bits, sign-extended. -/
def Size.sext : Size → Long → Long
  | .byte, v => (v.setWidth 8).signExtend 32
  | .word, v => (v.setWidth 16).signExtend 32
  | .long, v => v

/-- Bit `W-1`. -/
def Size.msb : Size → Long → Bool
  | .byte, v => v.getLsbD 7
  | .word, v => v.getLsbD 15
  | .long, v => v.getLsbD 31

/-- `old` with its low `W` bits replaced by those of `v` (R22). -/
def Size.merge : Size → Long → Long → Long
  | .byte, old, v => old.extractLsb' 8 24 ++ v.setWidth 8
  | .word, old, v => old.extractLsb' 16 16 ++ v.setWidth 16
  | .long, _, v => v

/-- `u(v)`: the low `W` bits as an unsigned number. -/
def Size.u (sz : Size) (v : Long) : Nat := (sz.trunc v).toNat

/-- `s(v)`: the low `W` bits as a signed number. -/
def Size.i (sz : Size) (v : Long) : Int := (sz.sext v).toInt

/-- The signed range of `W` bits: `[-2^(W-1), 2^(W-1)-1]` (R29). -/
def Size.inRange (sz : Size) (n : Int) : Bool :=
  decide (-(2 ^ (sz.bits - 1) : Int) ≤ n) && decide (n ≤ 2 ^ (sz.bits - 1) - 1)

/-- A 16-bit displacement or address, sign-extended. -/
def sextWord (w : Word) : Long := w.signExtend 32

/-- An 8-bit displacement, sign-extended. -/
def sextByte (b : Byte) : Long := b.signExtend 32

/-- One bit as a number: 0 or 1. -/
def bitNat (b : Bool) : Nat := if b then 1 else 0

end Sys2Proof
end

