-- ==== Sys2Proof/Machine/State.lean ====
section
/-! DEFINITION. The state of the machine (spec 10_state.md R20 to R51, 60_exceptions.md R390 to R398), the faults and refusals,
and the state after reset (70_reset_and_hazards.md R430 to R432). INVENTORY.md lists every field with its rule. -/

namespace Sys2Proof.Machine

/-- The model's own fault. No exception of the machine is a fault here: an exception gives a next state. -/
inductive Fault where
  /-- `exec` was given an instruction term that no encoding gives (`Instr.wf` fails in its operand). The decoder never makes
  such a term, so no step of the machine raises this. Raised by the operand operations. Safe (log 38). -/
  | illFormed
deriving DecidableEq, Repr

/-- The stops of the model. -/
inductive Refusal where
  /-- An instruction that has no meaning yet; raised by an arm of `exec` only. Safe. -/
  | notModelled (mnemonic : String)
  /-- "unassigned encoding executed": R114 under `reserved_encoding_behaviour = refuse`. Raised by the step and by MOVEC to a
  control register the configuration lacks. Safe (log 9). -/
  | unassigned
  /-- An FPU opword with the unit configured present (U1). Raised by the step. Safe (log 30). -/
  | fpu
  /-- A MAC or EMAC opword with a unit configured present (U1). Raised by the step. Safe (log 30). -/
  | mac
  /-- "debug module not modelled": WDEBUG in supervisor mode (R337, U1). Safe (log 30). -/
  | debugModule
  /-- LINK A7 (U10). Safe (log 24). -/
  | linkA7
  /-- UNLK A7 (U10). Safe (log 24). -/
  | unlkA7
  /-- MOVE to or from USP with CACR[EUSP] clear on a core that has the bit (U11). Safe (log 25). -/
  | uspDisabled
  /-- An instruction word holds a byte the run has stored and not synchronized (R77, U14). Raised by every fetch. Safe
  (log 6). -/
  | selfModified
deriving DecidableEq, Repr

/-- Why the core halted, recorded for the host (R398). -/
inductive HaltReason where
  /-- HALT in supervisor mode. -/
  | haltInstruction
  /-- Fault on fault (R397): the vector of the exception being processed and the vector of the fault met in it. -/
  | faultOnFault (first second : Byte)
deriving DecidableEq, Repr

/-- The run state (R398). -/
inductive RunState where
  | running
  | stopped
  | halted (why : HaltReason)
deriving DecidableEq, Repr

/-- An interrupt request as the platform presents it at a boundary: the highest level now asserted and the vector its
acknowledge cycle would return (R390). -/
structure Irq where
  level : BitVec 3
  vector : Byte
deriving DecidableEq, Repr

/-- The machine. -/
structure State where
  /-- D0 to D7 (R21). -/
  d : Vector Long 8
  /-- A0 to A6 (R23). -/
  a : Vector Long 7
  /-- The supervisor stack pointer, and the one A7 where DUAL_SP does not hold (R24, R25). -/
  ssp : Long
  /-- The user stack pointer (R24, R33). -/
  usp : Long
  /-- The program counter (R26). -/
  pc : Long
  /-- The status register (R27, R31). -/
  sr : Word
  /-- The vector base register (R34). -/
  vbr : Long
  /-- The cache control register (R40, R41). -/
  cacr : Long
  /-- The address space identifier (R42). -/
  asid : BitVec 8
  /-- Access control registers (R43). -/
  acr0 : Long
  acr1 : Long
  acr2 : Long
  acr3 : Long
  /-- MMU base address register (R44). -/
  mmubar : Long
  /-- ROM base address registers (R45). -/
  rombar0 : Long
  rombar1 : Long
  /-- RAM base address registers (R45). -/
  rambar0 : Long
  rambar1 : Long
  /-- Module base address register (R46). -/
  mbar : Long
  /-- Memory in canonical form (R60); see Machine/Memory.lean. -/
  mem : List Host.Cell
  /-- The run state (R398). -/
  run : RunState
  /-- Interrupt sampling is inhibited before the next instruction (R391). -/
  inhibit : Bool
  /-- The model's own: the vector whose exception processing lasts until the next opword is fetched (R397, log 18). -/
  firstFetch : Option Byte
  /-- The addresses stored to and not synchronized since, rising (R77, log 6). -/
  unsynced : List Nat
  /-- What the platform presents at the boundaries to come (R390); the empty list presents nothing for ever. -/
  irq : List (Option Irq)
  /-- A level-7 request was asserted at the last sampling (R390). -/
  irq7 : Bool
  /-- The fault statuses of refused writes not yet reported (R383). -/
  writeFaults : List (BitVec 4)
  /-- The environment's choices of where a write fault is reported (R383); the empty list reports at once. -/
  deliver : List Bool
  /-- The model's own: the number of free values drawn (log 27). -/
  freeIdx : Nat
  /-- The configuration (R8). -/
  cfg : Config
deriving DecidableEq, Repr

/-- The machine right after reset, with a memory that lists nothing: SR is 0x27xx, CACR[EUSP] is 0, A7 and PC are the longwords
at addresses 0 and 4 of that memory, run is `running`, no interrupt is pending (R430, R431). Every other value is the model's
(log 7, log 22; the level-7 edge memory: log 51). -/
def State.reset : State where
  d := Vector.replicate 8 0#32
  a := Vector.replicate 7 0#32
  ssp := 0#32
  usp := 0#32
  pc := 0#32
  sr := 0x2700#16
  vbr := 0#32
  cacr := 0#32
  asid := 0#8
  acr0 := 0#32
  acr1 := 0#32
  acr2 := 0#32
  acr3 := 0#32
  mmubar := 0#32
  rombar0 := 0#32
  rombar1 := 0#32
  rambar0 := 0#32
  rambar1 := 0#32
  mbar := 0#32
  mem := []
  run := .running
  inhibit := false
  firstFetch := some 0#8
  unsynced := []
  irq := []
  irq7 := false
  writeFaults := []
  deliver := []
  freeIdx := 0
  cfg := Config.default

end Sys2Proof.Machine
end

