-- ==== Sys2Proof/Machine/Memory.lean ====
section
/-! DEFINITION. Memory as canonical data: cells in strictly rising address order, none holding what an unlisted address
reads as (spec 20_memory.md R60 to R63). The size of an access decides its bytes once, here, in big-endian order (R62). -/

namespace Sys2Proof.Machine

/-- What an address that is not listed reads as (log 23). -/
def Memory.unlisted : Byte := 0#8

/-- The byte at an address. -/
def Memory.read : List Host.Cell → Nat → Byte
  | [], _ => Memory.unlisted
  | (k, b) :: m, a => if k = a then b else Memory.read m a

/-- Memory without the cell of an address. -/
def Memory.erase (m : List Host.Cell) (a : Nat) : List Host.Cell := m.filter fun c => c.1 != a

/-- Memory with a cell put at its place in the order. -/
def Memory.insert (a : Nat) (b : Byte) : List Host.Cell → List Host.Cell
  | [] => [(a, b)]
  | c :: m => if a < c.1 then (a, b) :: c :: m else c :: Memory.insert a b m

/-- Memory with the byte at an address written. -/
def Memory.write (m : List Host.Cell) (a : Nat) (b : Byte) : List Host.Cell :=
  if b = Memory.unlisted then Memory.erase m a else Memory.insert a b (Memory.erase m a)

/-- The canonical form: addresses of 32 bits, strictly rising, no cell that reads as an unlisted one. -/
def Memory.wf (m : List Host.Cell) : Bool :=
  decide (m.Pairwise fun c e => c.1 < e.1) && m.all fun c => c.2 != Memory.unlisted && decide (c.1 < 2 ^ 32)

/-- The byte at a 32-bit address. -/
def byteOf (m : List Host.Cell) (a : Long) : Byte := Memory.read m a.toNat

/-- The operand at an address, zero-extended; the byte at the lowest address is the most significant (R62). -/
def loadOf (m : List Host.Cell) (a : Long) : Size → Long
  | .byte => (byteOf m a).setWidth 32
  | .word => (byteOf m a ++ byteOf m (a + 1#32)).setWidth 32
  | .long => byteOf m a ++ byteOf m (a + 1#32) ++ byteOf m (a + 2#32) ++ byteOf m (a + 3#32)

/-- Memory with the low `W` bits of `v` stored at an address, most significant byte lowest (R62). -/
def storeOf (m : List Host.Cell) (a : Long) (sz : Size) (v : Long) : List Host.Cell :=
  match sz with
  | .byte => Memory.write m a.toNat (v.extractLsb' 0 8)
  | .word => Memory.write (Memory.write m a.toNat (v.extractLsb' 8 8)) (a + 1#32).toNat (v.extractLsb' 0 8)
  | .long =>
    Memory.write
      (Memory.write
        (Memory.write (Memory.write m a.toNat (v.extractLsb' 24 8)) (a + 1#32).toNat (v.extractLsb' 16 8))
        (a + 2#32).toNat (v.extractLsb' 8 8))
      (a + 3#32).toNat (v.extractLsb' 0 8)

/-- The addresses of the bytes of an operand. -/
def spanOf (a : Long) (n : Nat) : List Nat := (List.range n).map fun i => (a + BitVec.ofNat 32 i).toNat

/-- A rising list of addresses with one more address. -/
def Addresses.insert (a : Nat) : List Nat → List Nat
  | [] => [a]
  | k :: ks => if a < k then a :: k :: ks else if a = k then k :: ks else k :: Addresses.insert a ks

/-- A rising list of addresses with those of an operand. -/
def Addresses.insertAll (as ks : List Nat) : List Nat := as.foldr Addresses.insert ks

end Sys2Proof.Machine
end

