-- ==== Sys2Proof/Syntax.lean ====
section
/-! DEFINITION. The instructions: one constructor of `Instr` per row of spec/opcode_table.json, in the table's order, with
their operands. Register numbers are `Fin 8`; an effective address carries its extension words (spec 40_addressing_modes.md). -/

namespace Sys2Proof

/-- The twelve effective addressing modes (R120) with what their extension words hold (R94). -/
inductive Ea where
  /-- `Dn` (R122). -/
  | dreg (n : Fin 8)
  /-- `An` (R123). -/
  | areg (n : Fin 8)
  /-- `(An)` (R124). -/
  | ind (n : Fin 8)
  /-- `(An)+` (R125). -/
  | postinc (n : Fin 8)
  /-- `-(An)` (R126). -/
  | predec (n : Fin 8)
  /-- `(d16,An)` (R127). -/
  | disp (n : Fin 8) (d16 : Word)
  /-- `(d8,An,Xi*SF)` (R128); `w` is the brief extension word of R96. -/
  | index (n : Fin 8) (w : Word)
  /-- `(xxx).W` (R132). -/
  | absW (w : Word)
  /-- `(xxx).L` (R133). -/
  | absL (l : Long)
  /-- `(d16,PC)` (R129). -/
  | pcDisp (d16 : Word)
  /-- `(d8,PC,Xi*SF)` (R130); `w` is the brief extension word of R96. -/
  | pcIndex (w : Word)
  /-- `#<xxx>` (R134): the operand, zero-extended from the size of the instruction. -/
  | imm (v : Long)
deriving DecidableEq, Repr

/-- The sixteen conditions of R181, in the order of their codes. -/
inductive Cond where
  | t | f | hi | ls | cc | cs | ne | eq | vc | vs | pl | mi | ge | lt | gt | le
deriving DecidableEq, Repr

/-- The three forms of a branch displacement (R180). -/
inductive Disp where
  | byte (d : Byte)
  | word (d : Word)
  | long (d : Long)
deriving DecidableEq, Repr

/-- The count of a shift (R280): the count field, or a data register. -/
inductive ShiftCount where
  | imm (ccc : Fin 8)
  | reg (dy : Fin 8)
deriving DecidableEq, Repr

/-- The cache a CPUSHL names (R339). -/
inductive CacheSel where
  | dc
  | ic
  | bc
deriving DecidableEq, Repr

/-- The instruction set. The mnemonic of the table's row stands in the docstring. -/
inductive Instr where
  /-- ORI.L -/
  | oriL (imm : Long) (dx : Fin 8)
  /-- ANDI.L -/
  | andiL (imm : Long) (dx : Fin 8)
  /-- SUBI.L -/
  | subiL (imm : Long) (dx : Fin 8)
  /-- ADDI.L -/
  | addiL (imm : Long) (dx : Fin 8)
  /-- EORI.L -/
  | eoriL (imm : Long) (dx : Fin 8)
  /-- BITREV.L -/
  | bitrev (dx : Fin 8)
  /-- BYTEREV.L -/
  | byterev (dx : Fin 8)
  /-- FF1.L -/
  | ff1 (dx : Fin 8)
  /-- BTST #imm,ea -/
  | btstImm (bn : Byte) (ea : Ea)
  /-- BCHG #imm,ea -/
  | bchgImm (bn : Byte) (ea : Ea)
  /-- BCLR #imm,ea -/
  | bclrImm (bn : Byte) (ea : Ea)
  /-- BSET #imm,ea -/
  | bsetImm (bn : Byte) (ea : Ea)
  /-- BTST Dy,ea -/
  | btstReg (dy : Fin 8) (ea : Ea)
  /-- BCHG Dy,ea -/
  | bchgReg (dy : Fin 8) (ea : Ea)
  /-- BCLR Dy,ea -/
  | bclrReg (dy : Fin 8) (ea : Ea)
  /-- BSET Dy,ea -/
  | bsetReg (dy : Fin 8) (ea : Ea)
  /-- CMPI.sz -/
  | cmpi (sz : Size) (imm : Long) (dx : Fin 8)
  /-- MOVE.B -/
  | moveB (src dst : Ea)
  /-- MOVE.W -/
  | moveW (src dst : Ea)
  /-- MOVE.L -/
  | moveL (src dst : Ea)
  /-- MOVEA.W -/
  | moveaW (src : Ea) (ax : Fin 8)
  /-- MOVEA.L -/
  | moveaL (src : Ea) (ax : Fin 8)
  /-- NEGX.L -/
  | negx (dx : Fin 8)
  /-- MOVE.W SR,Dx -/
  | moveFromSr (dx : Fin 8)
  /-- LEA.L -/
  | lea (src : Ea) (ax : Fin 8)
  /-- CLR.sz -/
  | clr (sz : Size) (ea : Ea)
  /-- MOVE.W CCR,Dx -/
  | moveFromCcr (dx : Fin 8)
  /-- NEG.L -/
  | neg (dx : Fin 8)
  /-- MOVE.B ea,CCR -/
  | moveToCcr (src : Ea)
  /-- NOT.L -/
  | not (dx : Fin 8)
  /-- MOVE.W ea,SR -/
  | moveToSr (src : Ea)
  /-- SWAP.W -/
  | swap (dx : Fin 8)
  /-- PEA.L -/
  | pea (src : Ea)
  /-- EXT.W -/
  | extW (dx : Fin 8)
  /-- EXT.L -/
  | extL (dx : Fin 8)
  /-- MOVEM.L list,ea; bit i of the mask selects register i of D0 to D7, A0 to A7 -/
  | movemStore (mask : Word) (ea : Ea)
  /-- EXTB.L -/
  | extbL (dx : Fin 8)
  /-- TST.sz -/
  | tst (sz : Size) (src : Ea)
  /-- TAS.B -/
  | tas (ea : Ea)
  /-- HALT -/
  | halt
  /-- PULSE -/
  | pulse
  /-- ILLEGAL -/
  | illegal
  /-- SATS.L -/
  | sats (dx : Fin 8)
  /-- MOVEM.L ea,list -/
  | movemLoad (mask : Word) (ea : Ea)
  /-- TRAP -/
  | trap (v : Fin 16)
  /-- LINK.W -/
  | link (ay : Fin 8) (d16 : Word)
  /-- UNLK -/
  | unlk (ax : Fin 8)
  /-- MOVE.L Ay,USP -/
  | moveToUsp (ay : Fin 8)
  /-- MOVE.L USP,Ax -/
  | moveFromUsp (ax : Fin 8)
  /-- NOP -/
  | nop
  /-- STOP -/
  | stop (imm : Word)
  /-- RTE -/
  | rte
  /-- RTS -/
  | rts
  /-- MOVEC.L; `rn` numbers D0 to D7, A0 to A7, `rc` is the control register number -/
  | movec (rn : Fin 16) (rc : BitVec 12)
  /-- JSR -/
  | jsr (ea : Ea)
  /-- JMP -/
  | jmp (ea : Ea)
  /-- STLDSR -/
  | stldsr (imm : Word)
  /-- MULU.L -/
  | muluL (src : Ea) (dx : Fin 8)
  /-- MULS.L -/
  | mulsL (src : Ea) (dx : Fin 8)
  /-- DIVU.L -/
  | divuL (src : Ea) (dx : Fin 8)
  /-- DIVS.L -/
  | divsL (src : Ea) (dx : Fin 8)
  /-- REMU.L -/
  | remuL (src : Ea) (dw dx : Fin 8)
  /-- REMS.L -/
  | remsL (src : Ea) (dw dx : Fin 8)
  /-- ADDQ.L; `q` is the data field -/
  | addq (q : Fin 8) (ea : Ea)
  /-- SUBQ.L; `q` is the data field -/
  | subq (q : Fin 8) (ea : Ea)
  /-- Scc.B -/
  | scc (c : Cond) (dx : Fin 8)
  /-- TPF -/
  | tpf
  /-- TPF.W; the skipped word -/
  | tpfW (w : Word)
  /-- TPF.L; the two skipped words -/
  | tpfL (w1 w2 : Word)
  /-- BRA -/
  | bra (d : Disp)
  /-- BSR -/
  | bsr (d : Disp)
  /-- Bcc -/
  | bcc (c : Cond) (d : Disp)
  /-- MOVEQ.L -/
  | moveq (d8 : Byte) (dx : Fin 8)
  /-- MVS.sz -/
  | mvs (sz : Size) (src : Ea) (dx : Fin 8)
  /-- MVZ.sz -/
  | mvz (sz : Size) (src : Ea) (dx : Fin 8)
  /-- OR.L ea,Dx -/
  | orEaDn (src : Ea) (dx : Fin 8)
  /-- OR.L Dy,ea -/
  | orDnEa (dy : Fin 8) (dst : Ea)
  /-- DIVU.W -/
  | divuW (src : Ea) (dx : Fin 8)
  /-- DIVS.W -/
  | divsW (src : Ea) (dx : Fin 8)
  /-- SUB.L ea,Dx -/
  | subEaDn (src : Ea) (dx : Fin 8)
  /-- SUB.L Dy,ea -/
  | subDnEa (dy : Fin 8) (dst : Ea)
  /-- SUBX.L -/
  | subx (dy dx : Fin 8)
  /-- SUBA.L -/
  | suba (src : Ea) (ax : Fin 8)
  /-- CMP.sz -/
  | cmp (sz : Size) (src : Ea) (dx : Fin 8)
  /-- CMPA.W -/
  | cmpaW (src : Ea) (ax : Fin 8)
  /-- CMPA.L -/
  | cmpaL (src : Ea) (ax : Fin 8)
  /-- EOR.L -/
  | eor (dy : Fin 8) (dst : Ea)
  /-- AND.L ea,Dx -/
  | andEaDn (src : Ea) (dx : Fin 8)
  /-- AND.L Dy,ea -/
  | andDnEa (dy : Fin 8) (dst : Ea)
  /-- MULU.W -/
  | muluW (src : Ea) (dx : Fin 8)
  /-- MULS.W -/
  | mulsW (src : Ea) (dx : Fin 8)
  /-- ADD.L ea,Dx -/
  | addEaDn (src : Ea) (dx : Fin 8)
  /-- ADD.L Dy,ea -/
  | addDnEa (dy : Fin 8) (dst : Ea)
  /-- ADDX.L -/
  | addx (dy dx : Fin 8)
  /-- ADDA.L -/
  | adda (src : Ea) (ax : Fin 8)
  /-- MOV3Q.L; `q` is the data field -/
  | mov3q (q : Fin 8) (dst : Ea)
  /-- ASL.L -/
  | asl (cnt : ShiftCount) (dx : Fin 8)
  /-- ASR.L -/
  | asr (cnt : ShiftCount) (dx : Fin 8)
  /-- LSL.L -/
  | lsl (cnt : ShiftCount) (dx : Fin 8)
  /-- LSR.L -/
  | lsr (cnt : ShiftCount) (dx : Fin 8)
  /-- CPUSHL -/
  | cpushl (cache : CacheSel) (ax : Fin 8)
  /-- INTOUCH -/
  | intouch (ay : Fin 8)
  /-- WDDATA.sz -/
  | wddata (sz : Size) (src : Ea)
  /-- WDEBUG.L -/
  | wdebug (src : Ea)
deriving DecidableEq, Repr

end Sys2Proof
end

