-- ==== Sys2Proof/Machine/Flags.lean ====
section
/-! DEFINITION. The condition codes and every flag computation (spec 10_state.md R27 to R30, 42_program_control.md R181). -/

namespace Sys2Proof.Machine

/-- The five condition codes (R27). -/
structure Flags where
  x : Bool
  n : Bool
  z : Bool
  v : Bool
  c : Bool
deriving DecidableEq, Repr

/-- The flags in bits 4 to 0 of a status word (R27). -/
def Flags.ofWord (w : Word) : Flags where
  x := w.getLsbD 4
  n := w.getLsbD 3
  z := w.getLsbD 2
  v := w.getLsbD 1
  c := w.getLsbD 0

/-- The five bits `X N Z V C`. -/
def Flags.toBits (f : Flags) : BitVec 5 :=
  BitVec.ofBool f.x ++ BitVec.ofBool f.n ++ BitVec.ofBool f.z ++ BitVec.ofBool f.v ++ BitVec.ofBool f.c

/-- A status word with its bits 4 to 0 replaced by the flags. -/
def Flags.into (f : Flags) (w : Word) : Word := w.extractLsb' 5 11 ++ f.toBits

/-- MOVE-style flags: `N <- result[W-1]; Z <- (result = 0); V <- 0; C <- 0; X unchanged` (R151 (c), R261). -/
def Flags.moveStyle (sz : Size) (r : Long) (old : Flags) : Flags :=
  { old with n := sz.msb r, z := decide (sz.trunc r = 0#32), v := false, c := false }

/-- The carry of `d + s + x` (R29). -/
def addCarry (sz : Size) (d s : Long) (x : Bool) : Bool :=
  decide (2 ^ sz.bits ≤ sz.u d + sz.u s + bitNat x)

/-- The overflow of `d + s + x` (R29). -/
def addOverflow (sz : Size) (d s : Long) (x : Bool) : Bool :=
  !sz.inRange (sz.i d + sz.i s + (bitNat x : Int))

/-- The borrow of `d - s - x` (R29). -/
def subBorrow (sz : Size) (d s : Long) (x : Bool) : Bool :=
  decide (sz.u d < sz.u s + bitNat x)

/-- The overflow of `d - s - x` (R29). -/
def subOverflow (sz : Size) (d s : Long) (x : Bool) : Bool :=
  !sz.inRange (sz.i d - sz.i s - (bitNat x : Int))

/-- The sum `d + s + x` in `W` bits (R29). -/
def addResult (sz : Size) (d s : Long) (x : Bool) : Long :=
  sz.trunc (d + s + BitVec.ofNat 32 (bitNat x))

/-- The difference `d - s - x` in `W` bits (R29). -/
def subResult (sz : Size) (d s : Long) (x : Bool) : Long :=
  sz.trunc (d - s - BitVec.ofNat 32 (bitNat x))

/-- All five flags of an addition (R29, R30). -/
def Flags.add (sz : Size) (d s : Long) : Flags :=
  let r := addResult sz d s false
  let c := addCarry sz d s false
  ⟨c, sz.msb r, decide (r = 0#32), addOverflow sz d s false, c⟩

/-- All five flags of a subtraction (R29, R30). -/
def Flags.sub (sz : Size) (d s : Long) : Flags :=
  let r := subResult sz d s false
  let c := subBorrow sz d s false
  ⟨c, sz.msb r, decide (r = 0#32), subOverflow sz d s false, c⟩

/-- The flags of a compare: those of the subtraction, X unchanged (R30). -/
def Flags.cmp (sz : Size) (d s : Long) (old : Flags) : Flags :=
  { Flags.sub sz d s with x := old.x }

/-- The flags of ADDX: Z is cleared by a nonzero result and otherwise keeps its value (R215). -/
def Flags.addx (d s : Long) (old : Flags) : Flags :=
  let r := addResult .long d s old.x
  let c := addCarry .long d s old.x
  ⟨c, r.getLsbD 31, old.z && decide (r = 0#32), addOverflow .long d s old.x, c⟩

/-- The flags of SUBX and NEGX: Z is cleared by a nonzero result and otherwise keeps its value (R236, R245). -/
def Flags.subx (d s : Long) (old : Flags) : Flags :=
  let r := subResult .long d s old.x
  let c := subBorrow .long d s old.x
  ⟨c, r.getLsbD 31, old.z && decide (r = 0#32), subOverflow .long d s old.x, c⟩

/-- The test of a condition (R181). -/
def condHolds (c : Cond) (f : Flags) : Bool :=
  match c with
  | .t => true
  | .f => false
  | .hi => !f.c && !f.z
  | .ls => f.c || f.z
  | .cc => !f.c
  | .cs => f.c
  | .ne => !f.z
  | .eq => f.z
  | .vc => !f.v
  | .vs => f.v
  | .pl => !f.n
  | .mi => f.n
  | .ge => f.n == f.v
  | .lt => f.n != f.v
  | .gt => !f.z && (f.n == f.v)
  | .le => f.z || (f.n != f.v)

end Sys2Proof.Machine
end

