-- ==== Sys2Proof/Machine/Registers.lean ====
section
/-! DEFINITION. Reading and writing the registers: one operation each (spec 10_state.md R20 to R34). -/

namespace Sys2Proof.Machine

/-- The user stack pointer exists: `HAS_USP`, and a revision other than `ISA_A` (R25). -/
def uspPresent (cfg : Config) : Bool := cfg.hasUsp && decide (cfg.isa ≠ .a)

/-- CACR[EUSP], bit 4 (R41). -/
def eusp (cacr : Long) : Bool := cacr.getLsbD 4

/-- `DUAL_SP` (R24). -/
def State.dualSp (s : State) : Bool := uspPresent s.cfg && (!s.cfg.hasEuspBit || eusp s.cacr)

/-- SR[S], bit 13: the machine is in supervisor mode (R31). -/
def State.supervisor (s : State) : Bool := s.sr.getLsbD 13

/-- SR[T], bit 15: trace enable (R31). -/
def State.trace (s : State) : Bool := s.sr.getLsbD 15

/-- SR[I], bits 10 to 8: the interrupt priority mask (R31). -/
def State.mask (s : State) : BitVec 3 := s.sr.extractLsb' 8 3

/-- The active A7, `SP` (R24, R25). -/
def State.sp (s : State) : Long := if s.dualSp && !s.supervisor then s.usp else s.ssp

/-- The state with the active A7 written. -/
def State.setSp (s : State) (v : Long) : State :=
  if s.dualSp && !s.supervisor then { s with usp := v } else { s with ssp := v }

/-- `D[n]`. -/
def State.getD (s : State) (n : Fin 8) : Long := s.d[n]

/-- The state with all of `D[n]` written. -/
def State.setD (s : State) (n : Fin 8) (v : Long) : State := { s with d := s.d.set n v }

/-- `A[n]`; `A[7]` is the active stack pointer. -/
def State.getA (s : State) (n : Fin 8) : Long := if h : n.val < 7 then s.a[n.val] else s.sp

/-- The state with `A[n]` written. -/
def State.setA (s : State) (n : Fin 8) (v : Long) : State :=
  if h : n.val < 7 then { s with a := s.a.set n.val v } else s.setSp v

/-- `R[n]`: D0 to D7, then A0 to A7. -/
def State.getR (s : State) (n : Fin 16) : Long :=
  if n.val < 8 then s.getD (Fin.ofNat 8 n.val) else s.getA (Fin.ofNat 8 n.val)

/-- The state with `R[n]` written. -/
def State.setR (s : State) (n : Fin 16) (v : Long) : State :=
  if n.val < 8 then s.setD (Fin.ofNat 8 n.val) v else s.setA (Fin.ofNat 8 n.val) v

/-- The condition codes. -/
def State.flags (s : State) : Flags := Flags.ofWord s.sr

/-- The state with the five condition codes written; P and the upper byte keep their value. -/
def State.setFlags (s : State) (f : Flags) : State := { s with sr := f.into s.sr }

/-- `SR_MASK`: the implemented bits of SR (R28, R322); CCR[P] is implemented on V3 only. -/
def srMask (cfg : Config) : Word := if cfg.core = .v3 then 0xB79F#16 else 0xB71F#16

/-- The state with SR loaded from a word: unimplemented bits are dropped (R28). -/
def State.loadSr (s : State) (v : Word) : State := { s with sr := v &&& srMask s.cfg }

/-- The state with the low byte of SR loaded: unimplemented bits are dropped, the upper byte is kept (R163). -/
def State.loadCcr (s : State) (v : Byte) : State :=
  { s with sr := (s.sr &&& 0xFF00#16) ||| (v.setWidth 16 &&& (srMask s.cfg &&& 0x00FF#16)) }

/-- `v[31:20] : 0x00000`: what VBR stores (R34). -/
def vbrOf (v : Long) : Long := v &&& 0xFFF00000#32

end Sys2Proof.Machine
end

