-- ==== Sys2Proof/Machine/Ops.lean ====
section
/-! DEFINITION. The accesses to memory, the results of an instruction, taking an exception and returning from one (spec
20_memory.md R61, 60_exceptions.md R371 to R399, 47_system_control.md R325). -/

namespace Sys2Proof.Machine

/-! The platform (R381, D5). -/

/-- The byte at the address lies in the region. -/
def regionCovers (r : Region) (a : Nat) : Bool := decide (r.base ≤ a) && decide (a < r.base + r.size)

/-- The region refuses accesses of the kind in the mode. -/
def regionRefuses (r : Region) (kind : AccessKind) (supervisor : Bool) : Bool :=
  (match kind with
    | .fetch => r.fetch
    | .read => r.read
    | .write => r.write) &&
  (if supervisor then r.supervisor else r.user)

/-- The first region of the platform that refuses an access of `n` bytes at `a`: one refused byte refuses the access as a
whole (D17). The access carries the mode of the machine (R50). Where the bytes of an access lie in two refusing regions the
first in the order of the list gives the fault status, whatever byte it refuses (the model's choice, R65 does not say: log 4). -/
def State.refusing (s : State) (kind : AccessKind) (a : Long) (n : Nat) : Option Region :=
  s.cfg.platform.find? fun r => regionRefuses r kind s.supervisor && (spanOf a n).any (regionCovers r)

/-- `refuses(addr, kind)` over the bytes of an access (R8). -/
def State.refuses (s : State) (kind : AccessKind) (a : Long) (n : Nat) : Bool := (s.refusing kind a n).isSome

/-! Memory. -/

/-- The byte of memory at an address. -/
def State.byteAt (s : State) (a : Long) : Byte := byteOf s.mem a

/-- The operand in memory at an address, zero-extended. -/
def State.load (s : State) (a : Long) (sz : Size) : Long := loadOf s.mem a sz

/-- The state with an operand stored in memory; the run has stored to its bytes (R77). -/
def State.store (s : State) (a : Long) (sz : Size) (v : Long) : State :=
  { s with mem := storeOf s.mem a sz v, unsynced := Addresses.insertAll (spanOf a sz.bytes) s.unsynced }

/-- The instruction word at an address. -/
def State.word (s : State) (a : Long) : Word := s.byteAt a ++ s.byteAt (a + 1#32)

/-- A byte of the instruction word at an address was stored and not synchronized (R77). -/
def State.dirty (s : State) (a : Long) : Bool := (spanOf a 2).any fun k => s.unsynced.contains k

/-! The results of an instruction's pseudocode. -/

/-- The exceptions an instruction can raise (R370, R371). -/
inductive Exc where
  | accessError (fs : BitVec 4)
  | addressError
  | illegalInstruction
  | divideByZero
  | privilegeViolation
  | lineA
  | lineF
  | formatError
  | trap (v : Fin 16)
deriving DecidableEq, Repr

/-- The vector of an exception (R370). -/
def Exc.vector : Exc → Byte
  | .accessError _ => 2#8
  | .addressError => 3#8
  | .illegalInstruction => 4#8
  | .divideByZero => 5#8
  | .privilegeViolation => 8#8
  | .lineA => 10#8
  | .lineF => 11#8
  | .formatError => 14#8
  | .trap v => BitVec.ofNat 8 (32 + v.val)

/-- The fault status of an exception (R376). -/
def Exc.faultStatus (cfg : Config) : Exc → BitVec 4
  | .accessError fs => fs
  | .addressError => cfg.fsAddressError
  | _ => 0#4

/-- The stacked PC: `pc0 + 2` for TRAP, `pc0` for every other exception of an instruction (R374). -/
def Exc.stackedPc (pc0 : Long) : Exc → Long
  | .trap _ => pc0 + 2#32
  | _ => pc0

/-- What a part of an instruction comes to: a value and a state, an exception raised in a state, or a stop of the model. -/
inductive Res (α : Type) where
  | ok (x : α) (s : State)
  | raise (e : Exc) (s : State)
  | refuse (r : Refusal)
  | fault (f : Fault)

/-- The next part of an instruction runs when the part before it came to a value. -/
def Res.bind {α β : Type} (r : Res α) (k : α → State → Res β) : Res β :=
  match r with
  | .ok x s => k x s
  | .raise e s => .raise e s
  | .refuse r => .refuse r
  | .fault f => .fault f

/-! Taking an exception. -/

/-- The core halts on a fault inside exception processing (R397). -/
def State.faultOnFault (s : State) (first second : Byte) : State := { s with run := .halted (.faultOnFault first second) }

/-- SR during exception processing: S set, T cleared; an interrupt also clears M and sets I (R372 step 1). -/
def entrySr (level : Option (BitVec 3)) (sr : Word) : Word :=
  match level with
  | none => (sr &&& 0x7FFF#16) ||| 0x2000#16
  | some l => (sr &&& 0x68FF#16) ||| 0x2000#16 ||| (l.setWidth 16 <<< 8)

/-- Where the frame goes: the stack pointer rounded down to a multiple of 4, minus 8 (R375). -/
def frameBase (sp0 : Long) : Long := (sp0 &&& 0xFFFFFFFC#32) - 8#32

/-- The first longword of the frame: `FORMAT : FS[3:2] : VEC : FS[1:0] : SR`, FORMAT = 4 + the two low bits of the stack
pointer (R375). -/
def frameWord (sp0 : Long) (vec : Byte) (fs : BitVec 4) (sr : Word) : Long :=
  (4#4 + (sp0.extractLsb' 0 2).setWidth 4) ++ fs.extractLsb' 2 2 ++ vec ++ fs.extractLsb' 0 2 ++ sr

/-- The address of an entry of the vector table (R370, R377). -/
def vectorAddress (vbr : Long) (vec : Byte) : Long := vbr + 4#32 * vec.setWidth 32

/-- A write inside exception processing: none where the platform refuses it. -/
def State.tryStore (s : State) (a : Long) (v : Long) : Option State :=
  if s.refuses .write a 4 then none else some (s.store a .long v)

/-- A read inside exception processing: none where the platform refuses it. -/
def State.tryLoad (s : State) (a : Long) : Option Long :=
  if s.refuses .read a 4 then none else some (s.load a .long)

/-- Taking an exception with vector `vec`, stacked PC `spc`, fault status `fs` and, for an interrupt, its level: `enter` of
R372. A refused access inside it halts the core (R397). -/
def enter (vec : Byte) (spc : Long) (fs : BitVec 4) (level : Option (BitVec 3)) (s : State) : State :=
  let s1 := { s with sr := entrySr level s.sr }
  let sp1 := frameBase s1.sp
  match s1.tryStore (sp1 + 4#32) spc with
  | none => s1.faultOnFault vec 2#8
  | some s2 =>
    match s2.tryStore sp1 (frameWord s1.sp vec fs s.sr) with
    | none => s2.faultOnFault vec 2#8
    | some s3 =>
      let s4 := s3.setSp sp1
      match s4.tryLoad (vectorAddress s4.vbr vec) with
      | none => s4.faultOnFault vec 2#8
      | some h => { s4 with pc := h, inhibit := true, run := .running, firstFetch := some vec }

/-- Taking an exception that an instruction started in `s0` raised in `s`: an access error leaves what the instruction changed
before it (D17); every other exception leaves the state the instruction started in (R128, R237 (b), R325, R384 to R389). -/
def takeException (s0 : State) (e : Exc) (s : State) : State :=
  let base := match e with
    | .accessError _ => s
    | _ => s0
  enter e.vector (e.stackedPc s0.pc) (e.faultStatus s0.cfg) none base

/-- The outcome of an instruction that started in `s0`. -/
def finish (s0 : State) (r : Res Unit) : Host.Outcome State Fault Refusal :=
  match r with
  | .ok _ s => .next s
  | .raise e s => .next (takeException s0 e s)
  | .refuse r => .refused r
  | .fault f => .fault f

/-! Accesses of an instruction. -/

/-- `MemRead(a, n)` (R61): AccessError with FS 1100 where the platform refuses it (R376). -/
def loadMem (a : Long) (sz : Size) (s : State) : Res Long :=
  if s.refuses .read a sz.bytes then .raise (.accessError 0xC#4) s else .ok (s.load a sz) s

/-- FS of a refused write: 1001 in a write-protected region, 1000 elsewhere (R376); of two refusing regions the one
`State.refusing` gives counts (the model's choice: log 4). -/
def writeStatus (r : Region) : BitVec 4 := if r.writeProtect then 9#4 else 8#4

/-- `MemWrite(a, n, v)` (R61): where the platform refuses it, AccessError at once, or, under `write_fault_mode = imprecise`,
the write is dropped and its fault waits for a boundary (R383). The waiting fault keeps 1001 in a write-protected region,
where R383 writes `AccessError(1000)` and R376 gives 1001 (the model's choice: log 5). -/
def storeMem (a : Long) (sz : Size) (v : Long) (s : State) : Res Unit :=
  match s.refusing .write a sz.bytes with
  | none => .ok () (s.store a sz v)
  | some r =>
    match s.cfg.writeFaultMode with
    | .precise => .raise (.accessError (writeStatus r)) s
    | .imprecise => .ok () { s with writeFaults := s.writeFaults ++ [writeStatus r] }

/-- `Fetch16(a)` of an extension word whose value the decoder has read: AccessError with FS 0100 where the platform refuses it
(R376), a refusal where the run has stored to it without synchronizing (R77). -/
def fetchCheck (a : Long) (s : State) : Res Unit :=
  if s.refuses .fetch a 2 then .raise (.accessError 4#4) s
  else if s.dirty a then .refuse .selfModified
  else .ok () s

/-- `next16()` for `n` words, the first being the word number `off` of the instruction (the opword is word 0) (R135). -/
def fetchExt (off n : Nat) (s : State) : Res Unit :=
  match n with
  | 0 => .ok () s
  | n + 1 =>
    (fetchCheck (s.pc + 2#32 * BitVec.ofNat 32 off) s).bind fun _ s => fetchExt (off + 1) n s

/-- `pc <- pcnext` for an instruction of `n` words (R26). -/
def advance (n : Nat) (s : State) : Res Unit := .ok () { s with pc := s.pc + 2#32 * BitVec.ofNat 32 n }

/-- `pc <- target`. -/
def jumpTo (target : Long) (s : State) : Res Unit := .ok () { s with pc := target }

/-- Every earlier store has been performed to memory (R75, R77). -/
def State.synced (s : State) : State := { s with unsynced := [] }

/-- `privileged()` (R320). -/
def privileged (s : State) (k : State → Res Unit) : Res Unit :=
  if s.supervisor then k s else .raise .privilegeViolation s

/-- A privileged instruction of `n` words after its opcode that synchronizes the pipeline before its actual execution (R75, R77):
`k` runs from the synchronized state, and so does the entry of an exception that the instruction raises. A refused fetch of one
of its own words comes before the synchronization (the model's choice: log 47). -/
def synchronizing (n : Nat) (s : State) (k : State → Res Unit) : Host.Outcome State Fault Refusal :=
  finish s.synced <| privileged s fun s => (fetchExt 1 n s).bind fun _ s => k s.synced

/-- A push: `SP <- SP - 4; MemWrite(SP, 4, v)` (R138). -/
def push (v : Long) (s : State) : Res Unit :=
  let s1 := s.setSp (s.sp - 4#32)
  storeMem s1.sp .long v s1

/-- Returning from an exception (R325): the two longwords of the frame, the format check, the stack pointer adjusted by the
format, then SR and PC. -/
def returnFromException (s : State) : Res Unit :=
  (loadMem s.sp .long s).bind fun w s =>
  (loadMem (s.sp + 4#32) .long s).bind fun newpc s =>
    let fmt := w.extractLsb' 28 4
    if fmt.toNat < 4 ∨ 7 < fmt.toNat then .raise .formatError s
    else
      let s1 := s.setSp (s.sp + 8#32 + (fmt - 4#4).setWidth 32)
      jumpTo newpc (s1.loadSr (w.extractLsb' 0 16))

end Sys2Proof.Machine
end

