-- ==== Sys2Proof/Machine/Operands.lean ====
section
/-! DEFINITION. Effective addresses and operands (spec 40_addressing_modes.md R120 to R137). The base of the PC-relative modes
is the opword's address plus 2 (R131); `s.pc` is the opword's address while an instruction runs. -/

namespace Sys2Proof.Machine

/-- The number of extension words (R94). -/
def eaWords (sz : Size) : Ea → Nat
  | .dreg _ | .areg _ | .ind _ | .postinc _ | .predec _ => 0
  | .disp _ _ | .index _ _ | .absW _ | .pcDisp _ | .pcIndex _ => 1
  | .absL _ => 2
  | .imm _ =>
    match sz with
    | .byte | .word => 1
    | .long => 2

/-- The size of an operand in bytes, as an address increment. -/
def sizeStep (sz : Size) : Long := BitVec.ofNat 32 sz.bytes

/-- `check(w)` of R135 fails: W/L = 0, bit 8 set, or scale 8 without an FPU (R128). -/
def badIndexWord (cfg : Config) (w : Word) : Bool :=
  !w.getLsbD 11 || w.getLsbD 8 || (decide (w.extractLsb' 9 2 = 3#2) && !cfg.hasFpu)

/-- The extension word of the effective address raises AddressError (R128, R130). -/
def badExtension (cfg : Config) : Ea → Bool
  | .index _ w | .pcIndex w => badIndexWord cfg w
  | _ => false

/-- `Xi*SF + sext_32(w[7:0])` (R128). -/
def indexOffset (s : State) (w : Word) : Long :=
  (s.getR (Fin.ofNat 16 (w.extractLsb' 12 4).toNat) <<< (w.extractLsb' 9 2).toNat) + sextByte (w.extractLsb' 0 8)

/-- The address of a memory operand, computed before any update of an address register (R124 to R133). -/
def eaAddress (sz : Size) (ea : Ea) (s : State) : Long :=
  match ea with
  | .ind n | .postinc n => s.getA n
  | .predec n => s.getA n - sizeStep sz
  | .disp n d => s.getA n + sextWord d
  | .index n w => s.getA n + indexOffset s w
  | .absW w => sextWord w
  | .absL l => l
  | .pcDisp d => s.pc + 2#32 + sextWord d
  | .pcIndex w => s.pc + 2#32 + indexOffset s w
  | .dreg _ | .areg _ | .imm _ => 0#32

/-- The state after the address register update of postincrement and predecrement (R125, R126). -/
def eaUpdate (sz : Size) (ea : Ea) (s : State) : State :=
  match ea with
  | .postinc n => s.setA n (s.getA n + sizeStep sz)
  | .predec n => s.setA n (s.getA n - sizeStep sz)
  | _ => s

/-- The effective address names a memory operand. -/
def isMemory : Ea → Bool
  | .dreg _ | .areg _ | .imm _ => false
  | _ => true

/-- `ea_addr` (R135): fetches the extension words from word number `off` on, checks an index word, yields the address and
updates the address register. -/
def eaAddr (sz : Size) (off : Nat) (ea : Ea) (s : State) : Res Long :=
  if isMemory ea then
    (fetchExt off (eaWords sz ea) s).bind fun _ s =>
      if badExtension s.cfg ea then .raise .addressError s else .ok (eaAddress sz ea s) (eaUpdate sz ea s)
  else .fault .illFormed

/-- `read_ea` (R135): the operand, zero-extended. -/
def readEa (sz : Size) (off : Nat) (ea : Ea) (s : State) : Res Long :=
  match ea with
  | .dreg n => .ok (sz.trunc (s.getD n)) s
  | .areg n => if sz = .byte then .fault .illFormed else .ok (sz.trunc (s.getA n)) s
  | .imm v => (fetchExt off (eaWords sz ea) s).bind fun _ s => .ok (sz.trunc v) s
  | _ => (eaAddr sz off ea s).bind fun a s => loadMem a sz s

/-- `write_ea` (R135): a data register keeps the bits above the operand (R22), an address register is written whole,
sign-extended (R123). -/
def writeEa (sz : Size) (off : Nat) (ea : Ea) (v : Long) (s : State) : Res Unit :=
  match ea with
  | .dreg n => .ok () (s.setD n (sz.merge (s.getD n) v))
  | .areg n => .ok () (s.setA n (sz.sext v))
  | _ => (eaAddr sz off ea s).bind fun a s => storeMem a sz v s

/-- A read-modify-write of the operand: `f` gives the new operand and the new flags from the old ones. The address is evaluated
once; the flags are written after the operand (R135, R211, R261 (f)). -/
def modifyEa (sz : Size) (off : Nat) (ea : Ea) (f : Long → Flags → Long × Flags) (s : State) : Res Unit :=
  match ea with
  | .dreg n =>
    let r := f (sz.trunc (s.getD n)) s.flags
    .ok () ((s.setD n (sz.merge (s.getD n) r.1)).setFlags r.2)
  | _ =>
    (eaAddr sz off ea s).bind fun a s =>
    (loadMem a sz s).bind fun v s =>
      let r := f v s.flags
      (storeMem a sz r.1 s).bind fun _ s => .ok () (s.setFlags r.2)

/-- `D[n]` and the flags replaced by a function of both. -/
def modifyD (n : Fin 8) (f : Long → Flags → Long × Flags) (s : State) : Res Unit :=
  let r := f (s.getD n) s.flags
  .ok () ((s.setD n r.1).setFlags r.2)

/-- An operation of a source operand on a data register: `f` gives the new register and the new flags from the source, the
register and the old flags. -/
def sourceToD (sz : Size) (off : Nat) (src : Ea) (n : Fin 8) (f : Long → Long → Flags → Long × Flags) (s : State) :
    Res Unit :=
  (readEa sz off src s).bind fun v s => modifyD n (f v) s

end Sys2Proof.Machine
end

