-- ==== Sys2Proof/Machine/BitManipulation.lean ====
section
/-! DEFINITION. The bit manipulation instructions (spec 46_bit_manipulation.md R300 to R307). -/

namespace Sys2Proof.Machine

/-- The width of a bit operand: 32 for a data register, 8 in memory (R300). -/
def bitWidth : Ea → Nat
  | .dreg _ => 32
  | _ => 8

/-- The size of a bit operand (R300). -/
def bitSize : Ea → Size
  | .dreg _ => .long
  | _ => .byte

/-- The longword with bit `b` alone set. -/
def bitMask (b : Nat) : Long := 1#32 <<< b

/-- Z set when bit `b` of the old operand is zero; the other flags unchanged (R300). -/
def bitFlags (old : Long) (b : Nat) (f : Flags) : Flags := { f with z := !old.getLsbD b }

/-- Bit `b` inverted (R301). -/
def bitChange (old : Long) (b : Nat) : Long := old ^^^ bitMask b

/-- Bit `b` cleared (R302). -/
def bitClear (old : Long) (b : Nat) : Long := old &&& ~~~bitMask b

/-- Bit `b` set (R303). -/
def bitSet (old : Long) (b : Nat) : Long := old ||| bitMask b

/-- BCHG, BCLR, BSET with bit number `bn`, the effective address's words starting at word `off` (R300). -/
def bitModify (change : Long → Nat → Long) (off bn : Nat) (ea : Ea) (s : State) : Res Unit :=
  let b := bn % bitWidth ea
  (modifyEa (bitSize ea) off ea (fun old f => (change old b, bitFlags old b f)) s).bind fun _ s =>
    advance (off + eaWords .byte ea) s

/-- BTST with bit number `bn` (R300, R304). -/
def bitTest (off bn : Nat) (ea : Ea) (s : State) : Res Unit :=
  let b := bn % bitWidth ea
  (readEa (bitSize ea) off ea s).bind fun old s =>
    advance (off + eaWords .byte ea) (s.setFlags (bitFlags old b s.flags))

/-- BTST #imm,ea (R304). -/
def execBtstImm (bn : Byte) (ea : Ea) (s : State) : Host.Outcome State Fault Refusal :=
  finish s <| (fetchExt 1 1 s).bind fun _ s => bitTest 2 bn.toNat ea s

/-- BCHG #imm,ea (R301). -/
def execBchgImm (bn : Byte) (ea : Ea) (s : State) : Host.Outcome State Fault Refusal :=
  finish s <| (fetchExt 1 1 s).bind fun _ s => bitModify bitChange 2 bn.toNat ea s

/-- BCLR #imm,ea (R302). -/
def execBclrImm (bn : Byte) (ea : Ea) (s : State) : Host.Outcome State Fault Refusal :=
  finish s <| (fetchExt 1 1 s).bind fun _ s => bitModify bitClear 2 bn.toNat ea s

/-- BSET #imm,ea (R303). -/
def execBsetImm (bn : Byte) (ea : Ea) (s : State) : Host.Outcome State Fault Refusal :=
  finish s <| (fetchExt 1 1 s).bind fun _ s => bitModify bitSet 2 bn.toNat ea s

/-- BTST Dy,ea (R304). -/
def execBtstReg (dy : Fin 8) (ea : Ea) (s : State) : Host.Outcome State Fault Refusal :=
  finish s (bitTest 1 (s.getD dy).toNat ea s)

/-- BCHG Dy,ea (R301). -/
def execBchgReg (dy : Fin 8) (ea : Ea) (s : State) : Host.Outcome State Fault Refusal :=
  finish s (bitModify bitChange 1 (s.getD dy).toNat ea s)

/-- BCLR Dy,ea (R302). -/
def execBclrReg (dy : Fin 8) (ea : Ea) (s : State) : Host.Outcome State Fault Refusal :=
  finish s (bitModify bitClear 1 (s.getD dy).toNat ea s)

/-- BSET Dy,ea (R303). -/
def execBsetReg (dy : Fin 8) (ea : Ea) (s : State) : Host.Outcome State Fault Refusal :=
  finish s (bitModify bitSet 1 (s.getD dy).toNat ea s)

/-- BITREV.L (R305): no flag is written. -/
def execBitrev (dx : Fin 8) (s : State) : Host.Outcome State Fault Refusal :=
  finish s <| (modifyD dx (fun d f => (d.reverse, f)) s).bind fun _ s => advance 1 s

/-- The four bytes in the opposite order (R306). -/
def byteReverse (d : Long) : Long :=
  d.extractLsb' 0 8 ++ d.extractLsb' 8 8 ++ d.extractLsb' 16 8 ++ d.extractLsb' 24 8

/-- BYTEREV.L (R306): no flag is written. -/
def execByterev (dx : Fin 8) (s : State) : Host.Outcome State Fault Refusal :=
  finish s <| (modifyD dx (fun d f => (byteReverse d, f)) s).bind fun _ s => advance 1 s

/-- The scan of FF1 from bit 31 down, over the low `n` bits: the number of clear bits above the first set one (R307). -/
def firstOne (d : Long) : Nat → Nat
  | 0 => 0
  | n + 1 => if d.getLsbD n then 0 else 1 + firstOne d n

/-- FF1.L (R307): the flags describe the source. -/
def execFf1 (dx : Fin 8) (s : State) : Host.Outcome State Fault Refusal :=
  finish s <|
    (modifyD dx (fun d f => (BitVec.ofNat 32 (firstOne d 32), Flags.moveStyle .long d f)) s).bind fun _ s => advance 1 s

end Sys2Proof.Machine
end

