-- ==== Sys2Proof/Machine/DataMovement.lean ====
section
/-! DEFINITION. The data movement instructions (spec 41_data_movement.md R150 to R164). -/

namespace Sys2Proof.Machine

/-- MOVE of size `sz` (R150): the source first (R136), the flags after the write. -/
def moveOp (sz : Size) (src dst : Ea) (s : State) : Res Unit :=
  (readEa sz 1 src s).bind fun v s =>
  (writeEa sz (1 + eaWords sz src) dst v s).bind fun _ s =>
    advance (1 + eaWords sz src + eaWords sz dst) (s.setFlags (Flags.moveStyle sz v s.flags))

/-- MOVE.B (R150). -/
def execMoveB (src dst : Ea) (s : State) : Host.Outcome State Fault Refusal := finish s (moveOp .byte src dst s)

/-- MOVE.W (R150). -/
def execMoveW (src dst : Ea) (s : State) : Host.Outcome State Fault Refusal := finish s (moveOp .word src dst s)

/-- MOVE.L (R150). -/
def execMoveL (src dst : Ea) (s : State) : Host.Outcome State Fault Refusal := finish s (moveOp .long src dst s)

/-- MOVEA of size `sz` (R152): a word source is sign-extended; no flags. -/
def moveaOp (sz : Size) (src : Ea) (ax : Fin 8) (s : State) : Res Unit :=
  (readEa sz 1 src s).bind fun v s => advance (1 + eaWords sz src) (s.setA ax (sz.sext v))

/-- MOVEA.W (R152). -/
def execMoveaW (src : Ea) (ax : Fin 8) (s : State) : Host.Outcome State Fault Refusal := finish s (moveaOp .word src ax s)

/-- MOVEA.L (R152). -/
def execMoveaL (src : Ea) (ax : Fin 8) (s : State) : Host.Outcome State Fault Refusal := finish s (moveaOp .long src ax s)

/-- MOVEQ.L (R153). -/
def execMoveq (d8 : Byte) (dx : Fin 8) (s : State) : Host.Outcome State Fault Refusal :=
  finish s <|
    (modifyD dx (fun _ f => (sextByte d8, Flags.moveStyle .long (sextByte d8) f)) s).bind fun _ s => advance 1 s

/-- The data of MOV3Q: -1 for a data field of 0 (R99, R155). -/
def mov3qData (q : Fin 8) : Long := if q.val = 0 then 0xFFFFFFFF#32 else BitVec.ofNat 32 q.val

/-- MOV3Q.L (R155): the flags are written for an address register destination too. -/
def execMov3q (q : Fin 8) (dst : Ea) (s : State) : Host.Outcome State Fault Refusal :=
  finish s <|
    (writeEa .long 1 dst (mov3qData q) s).bind fun _ s =>
      advance (1 + eaWords .long dst) (s.setFlags (Flags.moveStyle .long (mov3qData q) s.flags))

/-- MVS.sz (R154). -/
def execMvs (sz : Size) (src : Ea) (dx : Fin 8) (s : State) : Host.Outcome State Fault Refusal :=
  finish s <|
    (sourceToD sz 1 src dx (fun v _ f => (sz.sext v, Flags.moveStyle sz v f)) s).bind fun _ s =>
      advance (1 + eaWords sz src) s

/-- MVZ.sz (R164): N is always cleared. -/
def execMvz (sz : Size) (src : Ea) (dx : Fin 8) (s : State) : Host.Outcome State Fault Refusal :=
  finish s <|
    (sourceToD sz 1 src dx (fun v _ f => (sz.trunc v, { Flags.moveStyle sz v f with n := false })) s).bind fun _ s =>
      advance (1 + eaWords sz src) s

/-- The registers a MOVEM mask selects, in the order of transfer: bit 0 is D0, bit 15 is A7 (R156). -/
def maskRegs (mask : Word) : List (Fin 16) := (List.finRange 16).filter fun i => mask.getLsbD i.val

/-- The transfers of MOVEM to memory (R156): the writes made before a refused one stay made. -/
def storeRegs : List (Fin 16) → Long → State → Res Unit
  | [], _, s => .ok () s
  | r :: rs, a, s => (storeMem a .long (s.getR r) s).bind fun _ s => storeRegs rs (a + 4#32) s

/-- The transfers of MOVEM from memory (R157): the registers loaded before a refused read stay loaded. -/
def loadRegs : List (Fin 16) → Long → State → Res Unit
  | [], _, s => .ok () s
  | r :: rs, a, s => (loadMem a .long s).bind fun v s => loadRegs rs (a + 4#32) (s.setR r v)

/-- MOVEM.L #list,ea (R156). -/
def execMovemStore (mask : Word) (ea : Ea) (s : State) : Host.Outcome State Fault Refusal :=
  finish s <|
    (fetchExt 1 1 s).bind fun _ s =>
    (eaAddr .long 2 ea s).bind fun a s =>
    (storeRegs (maskRegs mask) a s).bind fun _ s => advance (2 + eaWords .long ea) s

/-- MOVEM.L ea,#list (R157). -/
def execMovemLoad (mask : Word) (ea : Ea) (s : State) : Host.Outcome State Fault Refusal :=
  finish s <|
    (fetchExt 1 1 s).bind fun _ s =>
    (eaAddr .long 2 ea s).bind fun a s =>
    (loadRegs (maskRegs mask) a s).bind fun _ s => advance (2 + eaWords .long ea) s

/-- LEA.L (R158): no memory access is made. -/
def execLea (src : Ea) (ax : Fin 8) (s : State) : Host.Outcome State Fault Refusal :=
  finish s <|
    (eaAddr .long 1 src s).bind fun a s => advance (1 + eaWords .long src) (s.setA ax a)

/-- PEA.L (R159): the address is computed before the stack pointer moves. -/
def execPea (src : Ea) (s : State) : Host.Outcome State Fault Refusal :=
  finish s <|
    (eaAddr .long 1 src s).bind fun a s =>
    (push a s).bind fun _ s => advance (1 + eaWords .long src) s

/-- LINK.W (R160); LINK A7 is refused (U10). -/
def execLink (ay : Fin 8) (d16 : Word) (s : State) : Host.Outcome State Fault Refusal :=
  finish s <|
    (fetchExt 1 1 s).bind fun _ s =>
      if ay.val = 7 then .refuse .linkA7
      else
        (push (s.getA ay) s).bind fun _ s =>
          let s1 := s.setA ay s.sp
          advance 2 (s1.setSp (s1.sp + sextWord d16))

/-- UNLK (R161); UNLK A7 is refused (U10). -/
def execUnlk (ax : Fin 8) (s : State) : Host.Outcome State Fault Refusal :=
  finish s <|
    if ax.val = 7 then .refuse .unlkA7
    else
      let s1 := s.setSp (s.getA ax)
      (loadMem s1.sp .long s1).bind fun v s =>
        advance 1 ((s.setA ax v).setSp (s.sp + 4#32))

/-- The low byte of SR as MOVE from CCR reads it: unimplemented bits are zero (R162). -/
def ccrWord (s : State) : Word := s.sr &&& 0x00FF#16 &&& srMask s.cfg

/-- MOVE.W CCR,Dx (R162). -/
def execMoveFromCcr (dx : Fin 8) (s : State) : Host.Outcome State Fault Refusal :=
  finish s <| advance 1 (s.setD dx (Size.word.merge (s.getD dx) ((ccrWord s).setWidth 32)))

/-- MOVE.B ea,CCR (R163). -/
def execMoveToCcr (src : Ea) (s : State) : Host.Outcome State Fault Refusal :=
  finish s <|
    (readEa .byte 1 src s).bind fun v s => advance (1 + eaWords .byte src) (s.loadCcr (v.setWidth 8))

end Sys2Proof.Machine
end

