-- ==== Sys2Proof/Machine/IntegerArithmetic.lean ====
section
/-! DEFINITION. The integer arithmetic instructions (spec 43_integer_arithmetic.md R210 to R245). -/

namespace Sys2Proof.Machine

/-- `d + s` with add-style flags (R211). -/
def addOp (s d : Long) (_ : Flags) : Long × Flags := (addResult .long d s false, Flags.add .long d s)

/-- `d - s` with sub-style flags (R211). -/
def subOp (s d : Long) (_ : Flags) : Long × Flags := (subResult .long d s false, Flags.sub .long d s)

/-- A register result with logic-style flags (R211): `N Z` from the result, V and C cleared, X unchanged. -/
def logicResult (r : Long) (f : Flags) : Long × Flags := (r, Flags.moveStyle .long r f)

/-- The data of ADDQ and SUBQ: 8 for a data field of 0 (R99). -/
def quickData (q : Fin 8) : Long := if q.val = 0 then 8#32 else BitVec.ofNat 32 q.val

/-- An operation with a longword immediate in two extension words on a data register. -/
def immToD (v : Long) (dx : Fin 8) (f : Long → Long → Flags → Long × Flags) (s : State) : Res Unit :=
  (fetchExt 1 2 s).bind fun _ s => (modifyD dx (f v) s).bind fun _ s => advance 3 s

/-- An operation of a longword source on a data register. -/
def eaToD (src : Ea) (dx : Fin 8) (f : Long → Long → Flags → Long × Flags) (s : State) : Res Unit :=
  (sourceToD .long 1 src dx f s).bind fun _ s => advance (1 + eaWords .long src) s

/-- An operation of a longword on an alterable destination. -/
def toEa (v : Long) (dst : Ea) (f : Long → Long → Flags → Long × Flags) (s : State) : Res Unit :=
  (modifyEa .long 1 dst (f v) s).bind fun _ s => advance (1 + eaWords .long dst) s

/-- ADDI.L (R213). -/
def execAddiL (v : Long) (dx : Fin 8) (s : State) : Host.Outcome State Fault Refusal := finish s (immToD v dx addOp s)

/-- SUBI.L (R242). -/
def execSubiL (v : Long) (dx : Fin 8) (s : State) : Host.Outcome State Fault Refusal := finish s (immToD v dx subOp s)

/-- ADD.L ea,Dx (R210). -/
def execAddEaDn (src : Ea) (dx : Fin 8) (s : State) : Host.Outcome State Fault Refusal := finish s (eaToD src dx addOp s)

/-- ADD.L Dy,ea (R210). -/
def execAddDnEa (dy : Fin 8) (dst : Ea) (s : State) : Host.Outcome State Fault Refusal :=
  finish s (toEa (s.getD dy) dst addOp s)

/-- SUB.L ea,Dx (R241). -/
def execSubEaDn (src : Ea) (dx : Fin 8) (s : State) : Host.Outcome State Fault Refusal := finish s (eaToD src dx subOp s)

/-- SUB.L Dy,ea (R241). -/
def execSubDnEa (dy : Fin 8) (dst : Ea) (s : State) : Host.Outcome State Fault Refusal :=
  finish s (toEa (s.getD dy) dst subOp s)

/-- ADDA.L (R212): the destination register is read after the source's update of it (D16). -/
def execAdda (src : Ea) (ax : Fin 8) (s : State) : Host.Outcome State Fault Refusal :=
  finish s <|
    (readEa .long 1 src s).bind fun v s => advance (1 + eaWords .long src) (s.setA ax (s.getA ax + v))

/-- SUBA.L (R244): the destination register is read after the source's update of it (D16). -/
def execSuba (src : Ea) (ax : Fin 8) (s : State) : Host.Outcome State Fault Refusal :=
  finish s <|
    (readEa .long 1 src s).bind fun v s => advance (1 + eaWords .long src) (s.setA ax (s.getA ax - v))

/-- ADDQ.L (R214): an address register is changed without the flags. -/
def execAddq (q : Fin 8) (ea : Ea) (s : State) : Host.Outcome State Fault Refusal :=
  finish s <|
    match ea with
    | .areg n => advance 1 (s.setA n (s.getA n + quickData q))
    | _ => toEa (quickData q) ea addOp s

/-- SUBQ.L (R243): an address register is changed without the flags. -/
def execSubq (q : Fin 8) (ea : Ea) (s : State) : Host.Outcome State Fault Refusal :=
  finish s <|
    match ea with
    | .areg n => advance 1 (s.setA n (s.getA n - quickData q))
    | _ => toEa (quickData q) ea subOp s

/-- ADDX.L (R215). -/
def execAddx (dy dx : Fin 8) (s : State) : Host.Outcome State Fault Refusal :=
  finish s <|
    (modifyD dx (fun d f => (addResult .long d (s.getD dy) f.x, Flags.addx d (s.getD dy) f)) s).bind fun _ s => advance 1 s

/-- SUBX.L (R245). -/
def execSubx (dy dx : Fin 8) (s : State) : Host.Outcome State Fault Refusal :=
  finish s <|
    (modifyD dx (fun d f => (subResult .long d (s.getD dy) f.x, Flags.subx d (s.getD dy) f)) s).bind fun _ s => advance 1 s

/-- NEG.L (R235): the subtraction `0 - d`. -/
def execNeg (dx : Fin 8) (s : State) : Host.Outcome State Fault Refusal :=
  finish s <| (modifyD dx (fun d f => subOp d 0#32 f) s).bind fun _ s => advance 1 s

/-- NEGX.L (R236): the subtraction `0 - d - X`. -/
def execNegx (dx : Fin 8) (s : State) : Host.Outcome State Fault Refusal :=
  finish s <|
    (modifyD dx (fun d f => (subResult .long 0#32 d f.x, Flags.subx 0#32 d f)) s).bind fun _ s => advance 1 s

/-- CLR.sz (R218): the destination is written, never read. -/
def execClr (sz : Size) (ea : Ea) (s : State) : Host.Outcome State Fault Refusal :=
  finish s <|
    (writeEa sz 1 ea 0#32 s).bind fun _ s =>
      advance (1 + eaWords sz ea) (s.setFlags (Flags.moveStyle sz 0#32 s.flags))

/-- CMP.sz (R219). -/
def execCmp (sz : Size) (src : Ea) (dx : Fin 8) (s : State) : Host.Outcome State Fault Refusal :=
  finish s <|
    (readEa sz 1 src s).bind fun v s =>
      advance (1 + eaWords sz src) (s.setFlags (Flags.cmp sz (s.getD dx) v s.flags))

/-- CMPI.sz (R222). -/
def execCmpi (sz : Size) (v : Long) (dx : Fin 8) (s : State) : Host.Outcome State Fault Refusal :=
  finish s <|
    (fetchExt 1 (eaWords sz (.imm v)) s).bind fun _ s =>
      advance (1 + eaWords sz (.imm v)) (s.setFlags (Flags.cmp sz (s.getD dx) v s.flags))

/-- CMPA of size `sz` (R221): a 32-bit compare with the sign-extended source. -/
def cmpaOp (sz : Size) (src : Ea) (ax : Fin 8) (s : State) : Res Unit :=
  (readEa sz 1 src s).bind fun v s =>
    advance (1 + eaWords sz src) (s.setFlags (Flags.cmp .long (s.getA ax) (sz.sext v) s.flags))

/-- CMPA.W (R221). -/
def execCmpaW (src : Ea) (ax : Fin 8) (s : State) : Host.Outcome State Fault Refusal := finish s (cmpaOp .word src ax s)

/-- CMPA.L (R221). -/
def execCmpaL (src : Ea) (ax : Fin 8) (s : State) : Host.Outcome State Fault Refusal := finish s (cmpaOp .long src ax s)

/-- EXT.W (R227): the flags are those of the 16-bit result. -/
def execExtW (dx : Fin 8) (s : State) : Host.Outcome State Fault Refusal :=
  finish s <|
    (modifyD dx (fun d f => (Size.word.merge d (Size.byte.sext d), Flags.moveStyle .word (Size.byte.sext d) f)) s).bind
      fun _ s => advance 1 s

/-- EXT.L (R228). -/
def execExtL (dx : Fin 8) (s : State) : Host.Outcome State Fault Refusal :=
  finish s <| (modifyD dx (fun d f => logicResult (Size.word.sext d) f) s).bind fun _ s => advance 1 s

/-- EXTB.L (R229). -/
def execExtbL (dx : Fin 8) (s : State) : Host.Outcome State Fault Refusal :=
  finish s <| (modifyD dx (fun d f => logicResult (Size.byte.sext d) f) s).bind fun _ s => advance 1 s

/-- The saturated value (R240). -/
def satsResult (v : Bool) (d : Long) : Long :=
  if v then (if d.getLsbD 31 then 0x7FFFFFFF#32 else 0x80000000#32) else d

/-- SATS.L (R240): the flags are written also when V was 0. -/
def execSats (dx : Fin 8) (s : State) : Host.Outcome State Fault Refusal :=
  finish s <| (modifyD dx (fun d f => logicResult (satsResult f.v d) f) s).bind fun _ s => advance 1 s

/-- MULU.W (R232): `u(s) * u(Dx[15:0])`. -/
def execMuluW (src : Ea) (dx : Fin 8) (s : State) : Host.Outcome State Fault Refusal :=
  finish s <|
    (sourceToD .word 1 src dx (fun v d f => logicResult (BitVec.ofNat 32 (Size.word.u v * Size.word.u d)) f) s).bind
      fun _ s => advance (1 + eaWords .word src) s

/-- MULS.W (R230): `s(s) * s(Dx[15:0])`. -/
def execMulsW (src : Ea) (dx : Fin 8) (s : State) : Host.Outcome State Fault Refusal :=
  finish s <|
    (sourceToD .word 1 src dx (fun v d f => logicResult (BitVec.ofInt 32 (Size.word.i v * Size.word.i d)) f) s).bind
      fun _ s => advance (1 + eaWords .word src) s

/-- An operation of the opword groups 0x4C00 and 0x4C40: own second word, then a longword source (R104). -/
def longSourceToD (src : Ea) (dx : Fin 8) (f : Long → Long → Flags → Long × Flags) (s : State) : Res Unit :=
  (fetchExt 1 1 s).bind fun _ s =>
  (sourceToD .long 2 src dx f s).bind fun _ s => advance (2 + eaWords .long src) s

/-- MULU.L (R233): the low 32 bits of the product. -/
def execMuluL (src : Ea) (dx : Fin 8) (s : State) : Host.Outcome State Fault Refusal :=
  finish s (longSourceToD src dx (fun v d f => logicResult (BitVec.ofNat 32 (Size.long.u v * Size.long.u d)) f) s)

/-- MULS.L (R231): the low 32 bits of the product. -/
def execMulsL (src : Ea) (dx : Fin 8) (s : State) : Host.Outcome State Fault Refusal :=
  finish s (longSourceToD src dx (fun v d f => logicResult (BitVec.ofInt 32 (Size.long.i v * Size.long.i d)) f) s)

/-- The flags of a divide whose quotient `q` of size `sz` fits (R237 (e)). -/
def divFlags (sz : Size) (q : Long) (f : Flags) : Flags :=
  { f with n := sz.msb q, z := decide (sz.trunc q = 0#32), v := false, c := false }

/-- The flags of a divide that overflows (R237 (d)). -/
def divOverflowFlags (f : Flags) : Flags := { f with n := false, z := false, v := true, c := false }

/-- The end of a divide (R237): the result goes to `dw`, or, where the quotient overflows, no register changes. -/
def divEnd (overflow : Bool) (dw : Fin 8) (result : Long) (flags : Flags) (n : Nat) (s : State) : Res Unit :=
  if overflow then advance n (s.setFlags (divOverflowFlags s.flags))
  else advance n ((s.setD dw result).setFlags flags)

/-- DIVU.W (R225): remainder and quotient of 16 bits. -/
def execDivuW (src : Ea) (dx : Fin 8) (s : State) : Host.Outcome State Fault Refusal :=
  finish s <|
    (readEa .word 1 src s).bind fun v s =>
      if Size.word.u v = 0 then .raise .divideByZero s
      else
        let q := Size.long.u (s.getD dx) / Size.word.u v
        let r := Size.long.u (s.getD dx) % Size.word.u v
        divEnd (decide (0xFFFF < q)) dx (BitVec.ofNat 16 r ++ BitVec.ofNat 16 q)
          (divFlags .word (BitVec.ofNat 32 q) s.flags) (1 + eaWords .word src) s

/-- DIVS.W (R223): remainder and quotient of 16 bits, truncated toward zero. -/
def execDivsW (src : Ea) (dx : Fin 8) (s : State) : Host.Outcome State Fault Refusal :=
  finish s <|
    (readEa .word 1 src s).bind fun v s =>
      if Size.word.u v = 0 then .raise .divideByZero s
      else
        let q := (Size.long.i (s.getD dx)).tdiv (Size.word.i v)
        let r := (Size.long.i (s.getD dx)).tmod (Size.word.i v)
        divEnd (!Size.word.inRange q) dx (BitVec.ofInt 16 r ++ BitVec.ofInt 16 q)
          (divFlags .word (BitVec.ofInt 32 q) s.flags) (1 + eaWords .word src) s

/-- The unsigned longword divide (R226, R239): `k` chooses what is stored of quotient and remainder. -/
def divuLongOp (src : Ea) (dx dw : Fin 8) (k : Nat → Nat → Nat) (s : State) : Res Unit :=
  (fetchExt 1 1 s).bind fun _ s =>
  (readEa .long 2 src s).bind fun v s =>
    if Size.long.u v = 0 then .raise .divideByZero s
    else
      let q := Size.long.u (s.getD dx) / Size.long.u v
      let r := Size.long.u (s.getD dx) % Size.long.u v
      divEnd false dw (BitVec.ofNat 32 (k q r)) (divFlags .long (BitVec.ofNat 32 q) s.flags) (2 + eaWords .long src) s

/-- The signed longword divide (R224, R238): `k` chooses what is stored of quotient and remainder. -/
def divsLongOp (src : Ea) (dx dw : Fin 8) (k : Int → Int → Int) (s : State) : Res Unit :=
  (fetchExt 1 1 s).bind fun _ s =>
  (readEa .long 2 src s).bind fun v s =>
    if Size.long.u v = 0 then .raise .divideByZero s
    else
      let q := (Size.long.i (s.getD dx)).tdiv (Size.long.i v)
      let r := (Size.long.i (s.getD dx)).tmod (Size.long.i v)
      divEnd (!Size.long.inRange q) dw (BitVec.ofInt 32 (k q r)) (divFlags .long (BitVec.ofInt 32 q) s.flags)
        (2 + eaWords .long src) s

/-- DIVU.L (R226). -/
def execDivuL (src : Ea) (dx : Fin 8) (s : State) : Host.Outcome State Fault Refusal :=
  finish s (divuLongOp src dx dx (fun q _ => q) s)

/-- DIVS.L (R224). -/
def execDivsL (src : Ea) (dx : Fin 8) (s : State) : Host.Outcome State Fault Refusal :=
  finish s (divsLongOp src dx dx (fun q _ => q) s)

/-- REMU.L (R239): the remainder goes to `dw`; the flags describe the quotient. -/
def execRemuL (src : Ea) (dw dx : Fin 8) (s : State) : Host.Outcome State Fault Refusal :=
  finish s (divuLongOp src dx dw (fun _ r => r) s)

/-- REMS.L (R238): the remainder goes to `dw`; the flags describe the quotient. -/
def execRemsL (src : Ea) (dw dx : Fin 8) (s : State) : Host.Outcome State Fault Refusal :=
  finish s (divsLongOp src dx dw (fun _ r => r) s)

end Sys2Proof.Machine
end

