-- ==== Sys2Proof/Machine/Logical.lean ====
section
/-! DEFINITION. The logical instructions (spec 44_logical.md R260 to R267): flags `N Z` from the result, V and C cleared, X
unchanged (R261). -/

namespace Sys2Proof.Machine

/-- `d & s` (R260). -/
def andOp (s d : Long) (f : Flags) : Long × Flags := logicResult (d &&& s) f

/-- `d | s` (R263). -/
def orOp (s d : Long) (f : Flags) : Long × Flags := logicResult (d ||| s) f

/-- `d ^ s` (R264). -/
def eorOp (s d : Long) (f : Flags) : Long × Flags := logicResult (d ^^^ s) f

/-- ANDI.L (R262). -/
def execAndiL (v : Long) (dx : Fin 8) (s : State) : Host.Outcome State Fault Refusal := finish s (immToD v dx andOp s)

/-- ORI.L (R267). -/
def execOriL (v : Long) (dx : Fin 8) (s : State) : Host.Outcome State Fault Refusal := finish s (immToD v dx orOp s)

/-- EORI.L (R265). -/
def execEoriL (v : Long) (dx : Fin 8) (s : State) : Host.Outcome State Fault Refusal := finish s (immToD v dx eorOp s)

/-- AND.L ea,Dx (R260). -/
def execAndEaDn (src : Ea) (dx : Fin 8) (s : State) : Host.Outcome State Fault Refusal := finish s (eaToD src dx andOp s)

/-- AND.L Dy,ea (R260). -/
def execAndDnEa (dy : Fin 8) (dst : Ea) (s : State) : Host.Outcome State Fault Refusal :=
  finish s (toEa (s.getD dy) dst andOp s)

/-- OR.L ea,Dx (R263). -/
def execOrEaDn (src : Ea) (dx : Fin 8) (s : State) : Host.Outcome State Fault Refusal := finish s (eaToD src dx orOp s)

/-- OR.L Dy,ea (R263). -/
def execOrDnEa (dy : Fin 8) (dst : Ea) (s : State) : Host.Outcome State Fault Refusal :=
  finish s (toEa (s.getD dy) dst orOp s)

/-- EOR.L (R264): the data register destination too. -/
def execEor (dy : Fin 8) (dst : Ea) (s : State) : Host.Outcome State Fault Refusal :=
  finish s (toEa (s.getD dy) dst eorOp s)

/-- NOT.L (R266). -/
def execNot (dx : Fin 8) (s : State) : Host.Outcome State Fault Refusal :=
  finish s <| (modifyD dx (fun d f => logicResult (~~~d) f) s).bind fun _ s => advance 1 s

end Sys2Proof.Machine
end

