-- ==== Sys2Proof/Machine/ProgramControl.lean ====
section
/-! DEFINITION. The program control instructions (spec 42_program_control.md R180 to R192). -/

namespace Sys2Proof.Machine

/-- The number of displacement words of a branch (R180). -/
def dispWords : Disp → Nat
  | .byte _ => 0
  | .word _ => 1
  | .long _ => 2

/-- The displacement of a branch, sign-extended (R180). -/
def dispValue : Disp → Long
  | .byte d => sextByte d
  | .word d => sextWord d
  | .long d => d

/-- The target of a branch: the base is the opword's address plus 2 for all three sizes (R180). -/
def branchTarget (d : Disp) (s : State) : Long := s.pc + 2#32 + dispValue d

/-- BRA (R183). -/
def execBra (d : Disp) (s : State) : Host.Outcome State Fault Refusal :=
  finish s <| (fetchExt 1 (dispWords d) s).bind fun _ s => jumpTo (branchTarget d s) s

/-- BSR (R189): pushes the address after the last displacement word. -/
def execBsr (d : Disp) (s : State) : Host.Outcome State Fault Refusal :=
  finish s <|
    (fetchExt 1 (dispWords d) s).bind fun _ s =>
    (push (s.pc + 2#32 + 2#32 * BitVec.ofNat 32 (dispWords d)) s).bind fun _ s => jumpTo (branchTarget d s) s

/-- Bcc (R182): the displacement words are consumed whether or not the branch is taken. -/
def execBcc (c : Cond) (d : Disp) (s : State) : Host.Outcome State Fault Refusal :=
  finish s <|
    (fetchExt 1 (dispWords d) s).bind fun _ s =>
      if condHolds c s.flags then jumpTo (branchTarget d s) s else advance (1 + dispWords d) s

/-- JMP (R184): the address itself. -/
def execJmp (ea : Ea) (s : State) : Host.Outcome State Fault Refusal :=
  finish s <| (eaAddr .long 1 ea s).bind fun a s => jumpTo a s

/-- JSR (R185): the address is computed before the stack pointer moves. -/
def execJsr (ea : Ea) (s : State) : Host.Outcome State Fault Refusal :=
  finish s <|
    (eaAddr .long 1 ea s).bind fun a s =>
    (push (s.pc + 2#32 + 2#32 * BitVec.ofNat 32 (eaWords .long ea)) s).bind fun _ s => jumpTo a s

/-- RTS (R186). -/
def execRts (s : State) : Host.Outcome State Fault Refusal :=
  finish s <| (loadMem s.sp .long s).bind fun t s => jumpTo t (s.setSp (s.sp + 4#32))

/-- NOP (R187): synchronizes the pipeline (R75). -/
def execNop (s : State) : Host.Outcome State Fault Refusal := finish s (advance 1 s.synced)

/-- TPF (R188). -/
def execTpf (s : State) : Host.Outcome State Fault Refusal := finish s (advance 1 s)

/-- TPF.W (R188): the skipped word is fetched and not interpreted (D18). -/
def execTpfW (_w : Word) (s : State) : Host.Outcome State Fault Refusal :=
  finish s <| (fetchExt 1 1 s).bind fun _ s => advance 2 s

/-- TPF.L (R188): the skipped words are fetched and not interpreted (D18). -/
def execTpfL (_w1 _w2 : Word) (s : State) : Host.Outcome State Fault Refusal :=
  finish s <| (fetchExt 1 2 s).bind fun _ s => advance 3 s

/-- Scc.B (R190): no flag is written. -/
def execScc (c : Cond) (dx : Fin 8) (s : State) : Host.Outcome State Fault Refusal :=
  finish s <|
    advance 1 (s.setD dx (Size.byte.merge (s.getD dx) (if condHolds c s.flags then 0xFF#32 else 0x00#32)))

/-- TST.sz (R191). -/
def execTst (sz : Size) (src : Ea) (s : State) : Host.Outcome State Fault Refusal :=
  finish s <|
    (readEa sz 1 src s).bind fun v s =>
      advance (1 + eaWords sz src) (s.setFlags (Flags.moveStyle sz v s.flags))

/-- TAS.B (R192): the flags are those of the value before the set. One step is one instruction, so nothing comes between the
read and the write (log 41). -/
def execTas (ea : Ea) (s : State) : Host.Outcome State Fault Refusal :=
  finish s <|
    (eaAddr .byte 1 ea s).bind fun a s =>
    (loadMem a .byte s).bind fun v s =>
    (storeMem a .byte (v ||| 0x80#32) s).bind fun _ s =>
      advance (1 + eaWords .byte ea) (s.setFlags (Flags.moveStyle .byte v s.flags))

end Sys2Proof.Machine
end

