-- ==== Sys2Proof/Machine/Shift.lean ====
section
/-! DEFINITION. The shifts and SWAP (spec 45_shift.md R280 to R285). -/

namespace Sys2Proof.Machine

/-- One place of a shift: the bit shifted out and the new value. -/
abbrev ShiftStep := Long → Bool × Long

/-- One place left: `last <- v[31]; v <- v[30:0] : 0` (R280). -/
def shiftLeftStep : ShiftStep := fun v => (v.getLsbD 31, v.extractLsb' 0 31 ++ 0#1)

/-- One place right, logical: `last <- v[0]; v <- 0 : v[31:1]` (R280). -/
def shiftRightLogicalStep : ShiftStep := fun v => (v.getLsbD 0, 0#1 ++ v.extractLsb' 1 31)

/-- One place right, arithmetic: `last <- v[0]; v <- v[31] : v[31:1]` (R280). -/
def shiftRightArithmeticStep : ShiftStep := fun v => (v.getLsbD 0, v.extractLsb' 31 1 ++ v.extractLsb' 1 31)

/-- `repeat count times` (R280): the value and the last bit shifted out, none for a count of zero. -/
def shiftLoop (step : ShiftStep) : Nat → Long → Option Bool → Long × Option Bool
  | 0, v, last => (v, last)
  | n + 1, v, _ => shiftLoop step n (step v).2 (some (step v).1)

/-- The count of a shift: 1 to 8, or a data register modulo 64 (R280). -/
def shiftCount (cnt : ShiftCount) (s : State) : Nat :=
  match cnt with
  | .imm c => if c.val = 0 then 8 else c.val
  | .reg dy => ((s.getD dy).extractLsb' 0 6).toNat

/-- The flags of a shift: C cleared and X unchanged for a count of zero (R280). -/
def shiftFlags (v : Long) (last : Option Bool) (f : Flags) : Flags :=
  match last with
  | none => ⟨f.x, v.getLsbD 31, decide (v = 0#32), false, false⟩
  | some b => ⟨b, v.getLsbD 31, decide (v = 0#32), false, b⟩

/-- A shift of a data register (R280). -/
def shiftOp (step : ShiftStep) (cnt : ShiftCount) (dx : Fin 8) (s : State) : Res Unit :=
  let r := shiftLoop step (shiftCount cnt s) (s.getD dx) none
  (modifyD dx (fun _ f => (r.1, shiftFlags r.1 r.2 f)) s).bind fun _ s => advance 1 s

/-- ASL.L (R281). -/
def execAsl (cnt : ShiftCount) (dx : Fin 8) (s : State) : Host.Outcome State Fault Refusal :=
  finish s (shiftOp shiftLeftStep cnt dx s)

/-- ASR.L (R282). -/
def execAsr (cnt : ShiftCount) (dx : Fin 8) (s : State) : Host.Outcome State Fault Refusal :=
  finish s (shiftOp shiftRightArithmeticStep cnt dx s)

/-- LSL.L (R283). -/
def execLsl (cnt : ShiftCount) (dx : Fin 8) (s : State) : Host.Outcome State Fault Refusal :=
  finish s (shiftOp shiftLeftStep cnt dx s)

/-- LSR.L (R284). -/
def execLsr (cnt : ShiftCount) (dx : Fin 8) (s : State) : Host.Outcome State Fault Refusal :=
  finish s (shiftOp shiftRightLogicalStep cnt dx s)

/-- SWAP.W (R285): the flags are those of all 32 bits. -/
def execSwap (dx : Fin 8) (s : State) : Host.Outcome State Fault Refusal :=
  finish s <|
    (modifyD dx (fun d f => logicResult (d.extractLsb' 0 16 ++ d.extractLsb' 16 16) f) s).bind fun _ s => advance 1 s

end Sys2Proof.Machine
end

