-- ==== Sys2Proof/Machine/SystemControl.lean ====
section
/-! DEFINITION. System control, trap, debug and cache instructions (spec 47_system_control.md R320 to R340). -/

namespace Sys2Proof.Machine

/-- MOVE.W SR,Dx (R321): unimplemented bits read as zero (R28). -/
def execMoveFromSr (dx : Fin 8) (s : State) : Host.Outcome State Fault Refusal :=
  finish s <|
    privileged s fun s =>
      advance 1 (s.setD dx (Size.word.merge (s.getD dx) ((s.sr &&& srMask s.cfg).setWidth 32)))

/-- MOVE.W ea,SR (R322). -/
def execMoveToSr (src : Ea) (s : State) : Host.Outcome State Fault Refusal :=
  synchronizing (eaWords .word src) s fun s =>
    (readEa .word 1 src s).bind fun v s => advance (1 + eaWords .word src) (s.loadSr (v.setWidth 16))

/-- The checks of MOVE to and from USP, in the order of R323: the unit, the privilege, CACR[EUSP]. -/
def withUsp (s : State) (k : State → Res Unit) : Res Unit :=
  if uspPresent s.cfg then
    privileged s fun s =>
      if s.cfg.hasEuspBit && !eusp s.cacr then .refuse .uspDisabled else k s
  else .raise .illegalInstruction s

/-- MOVE.L USP,Ax (R323). -/
def execMoveFromUsp (ax : Fin 8) (s : State) : Host.Outcome State Fault Refusal :=
  finish s <| withUsp s fun s => advance 1 (s.setA ax s.usp)

/-- MOVE.L Ay,USP (R324). -/
def execMoveToUsp (ay : Fin 8) (s : State) : Host.Outcome State Fault Refusal :=
  finish s <| withUsp s fun s => advance 1 { s with usp := s.getA ay }

/-- An SR image with bit 13 clear raises a privilege violation under `sr_imm_s_clear = privilege_violation` (U12). -/
def badSrImage (cfg : Config) (imm : Word) : Bool := decide (cfg.srImmSClear = .privilegeViolation) && !imm.getLsbD 13

/-- STLDSR (R335): pushes the zero-extended SR, then loads SR. -/
def execStldsr (imm : Word) (s : State) : Host.Outcome State Fault Refusal :=
  finish s <|
    privileged s fun s =>
      (fetchExt 1 2 s).bind fun _ s =>
        if badSrImage s.cfg imm then .raise .privilegeViolation s
        else (push (s.sr.setWidth 32) s).bind fun _ s => advance 3 (s.loadSr imm)

/-- RTE (R325). -/
def execRte (s : State) : Host.Outcome State Fault Refusal := synchronizing 0 s returnFromException

/-- ILLEGAL (R326). -/
def execIllegal (s : State) : Host.Outcome State Fault Refusal := finish s (.raise .illegalInstruction s)

/-- TRAP (R327). -/
def execTrap (v : Fin 16) (s : State) : Host.Outcome State Fault Refusal := finish s (.raise (.trap v) s)

/-- PULSE (R328): the PST output is not modelled (log 35). -/
def execPulse (s : State) : Host.Outcome State Fault Refusal := finish s (advance 1 s)

/-- WDDATA.sz (R338): the operand is read; the DDATA output is not modelled (log 35); no flag is written (log 43). -/
def execWddata (sz : Size) (src : Ea) (s : State) : Host.Outcome State Fault Refusal :=
  finish s <| (readEa sz 1 src s).bind fun _ s => advance (1 + eaWords sz src) s

/-- WDEBUG.L (R337): the debug module is not modelled. -/
def execWdebug (_src : Ea) (s : State) : Host.Outcome State Fault Refusal :=
  synchronizing 0 s fun _ => .refuse .debugModule

/-- STOP (R333): loads SR and stops; with T set before or by the operand, the trace exception is taken
instead (R388 (d)), the stacked SR being the loaded one (log 19). -/
def execStop (imm : Word) (s : State) : Host.Outcome State Fault Refusal :=
  synchronizing 1 s fun s =>
    if badSrImage s.cfg imm then .raise .privilegeViolation s
    else
      let t := { s.loadSr imm with pc := s.pc + 4#32 }
      if s.trace || t.trace then .ok () (enter 9#8 t.pc 0#4 none t)
      else .ok () { t with run := .stopped }

/-- HALT (R334). -/
def execHalt (s : State) : Host.Outcome State Fault Refusal :=
  synchronizing 0 s fun s => .ok () { s with pc := s.pc + 2#32, run := .halted .haltInstruction }

/-- The core has the registers "V4, V5" of the table of R336. -/
def lateCore (cfg : Config) : Bool := decide (cfg.core = .v4) || decide (cfg.core = .v5)

/-- CACR written (R336): where EUSP goes from 0 to 1 on a core with the bit, USP takes a free value (U13, log 27). -/
def writeCacr (v : Long) (s : State) : State :=
  if uspPresent s.cfg && s.cfg.hasEuspBit && !eusp s.cacr && eusp v then
    { s with cacr := v, usp := Config.freeWord s.freeIdx, freeIdx := s.freeIdx + 1 }
  else { s with cacr := v }

/-- The state with a control register written; none where the configuration lacks it (R336). -/
def writeControl (rc : BitVec 12) (v : Long) (s : State) : Option State :=
  let mmu := s.cfg.hasMmu && lateCore s.cfg
  let dev := s.cfg.deviceRegs
  match rc.toNat with
  | 0x002 => some (writeCacr v s)
  | 0x003 => if mmu then some { s with asid := v.setWidth 8 } else none
  | 0x004 => some { s with acr0 := v }
  | 0x005 => some { s with acr1 := v }
  | 0x006 => if lateCore s.cfg then some { s with acr2 := v } else none
  | 0x007 => if lateCore s.cfg then some { s with acr3 := v } else none
  | 0x008 => if mmu then some { s with mmubar := v } else none
  | 0x801 => some { s with vbr := vbrOf v }
  | 0xC00 => if dev.rombar0 then some { s with rombar0 := v } else none
  | 0xC01 => if dev.rombar1 then some { s with rombar1 := v } else none
  | 0xC04 => if dev.rambar0 then some { s with rambar0 := v } else none
  | 0xC05 => if dev.rambar1 then some { s with rambar1 := v } else none
  | 0xC0F => if dev.mbar then some { s with mbar := v } else none
  | _ => none

/-- An unassigned encoding outside lines A and F (R114). -/
def unassigned (s : State) : Res Unit :=
  match s.cfg.reserved with
  | .trap => .raise .illegalInstruction s
  | .refuse => .refuse .unassigned

/-- MOVEC.L (R336). -/
def execMovec (rn : Fin 16) (rc : BitVec 12) (s : State) : Host.Outcome State Fault Refusal :=
  synchronizing 1 s fun s =>
    match writeControl rc (s.getR rn) s with
    | none => unassigned s
    | some t => advance 2 t

/-- CPUSHL (R339): with no cache in the model it only advances the pc (log 33). -/
def execCpushl (_cache : CacheSel) (_ax : Fin 8) (s : State) : Host.Outcome State Fault Refusal :=
  synchronizing 0 s (advance 1)

/-- INTOUCH (R340): with no cache in the model it only advances the pc and makes no access (log 33). -/
def execIntouch (_ay : Fin 8) (s : State) : Host.Outcome State Fault Refusal :=
  synchronizing 0 s (advance 1)

end Sys2Proof.Machine
end

