-- ==== Sys2Proof/Machine/Dispatch.lean ====
section
/-! DEFINITION. One arm per constructor of `Instr`, each one direct call of its meaning. -/

namespace Sys2Proof.Machine

def exec (i : Instr) (s : State) : Host.Outcome State Fault Refusal :=
  match i with
  | .oriL imm dx => Sys2Proof.Machine.execOriL imm dx s
  | .andiL imm dx => Sys2Proof.Machine.execAndiL imm dx s
  | .subiL imm dx => Sys2Proof.Machine.execSubiL imm dx s
  | .addiL imm dx => Sys2Proof.Machine.execAddiL imm dx s
  | .eoriL imm dx => Sys2Proof.Machine.execEoriL imm dx s
  | .bitrev dx => Sys2Proof.Machine.execBitrev dx s
  | .byterev dx => Sys2Proof.Machine.execByterev dx s
  | .ff1 dx => Sys2Proof.Machine.execFf1 dx s
  | .btstImm bn ea => Sys2Proof.Machine.execBtstImm bn ea s
  | .bchgImm bn ea => Sys2Proof.Machine.execBchgImm bn ea s
  | .bclrImm bn ea => Sys2Proof.Machine.execBclrImm bn ea s
  | .bsetImm bn ea => Sys2Proof.Machine.execBsetImm bn ea s
  | .btstReg dy ea => Sys2Proof.Machine.execBtstReg dy ea s
  | .bchgReg dy ea => Sys2Proof.Machine.execBchgReg dy ea s
  | .bclrReg dy ea => Sys2Proof.Machine.execBclrReg dy ea s
  | .bsetReg dy ea => Sys2Proof.Machine.execBsetReg dy ea s
  | .cmpi sz imm dx => Sys2Proof.Machine.execCmpi sz imm dx s
  | .moveB src dst => Sys2Proof.Machine.execMoveB src dst s
  | .moveW src dst => Sys2Proof.Machine.execMoveW src dst s
  | .moveL src dst => Sys2Proof.Machine.execMoveL src dst s
  | .moveaW src ax => Sys2Proof.Machine.execMoveaW src ax s
  | .moveaL src ax => Sys2Proof.Machine.execMoveaL src ax s
  | .negx dx => Sys2Proof.Machine.execNegx dx s
  | .moveFromSr dx => Sys2Proof.Machine.execMoveFromSr dx s
  | .lea src ax => Sys2Proof.Machine.execLea src ax s
  | .clr sz ea => Sys2Proof.Machine.execClr sz ea s
  | .moveFromCcr dx => Sys2Proof.Machine.execMoveFromCcr dx s
  | .neg dx => Sys2Proof.Machine.execNeg dx s
  | .moveToCcr src => Sys2Proof.Machine.execMoveToCcr src s
  | .not dx => Sys2Proof.Machine.execNot dx s
  | .moveToSr src => Sys2Proof.Machine.execMoveToSr src s
  | .swap dx => Sys2Proof.Machine.execSwap dx s
  | .pea src => Sys2Proof.Machine.execPea src s
  | .extW dx => Sys2Proof.Machine.execExtW dx s
  | .extL dx => Sys2Proof.Machine.execExtL dx s
  | .movemStore mask ea => Sys2Proof.Machine.execMovemStore mask ea s
  | .extbL dx => Sys2Proof.Machine.execExtbL dx s
  | .tst sz src => Sys2Proof.Machine.execTst sz src s
  | .tas ea => Sys2Proof.Machine.execTas ea s
  | .halt => Sys2Proof.Machine.execHalt s
  | .pulse => Sys2Proof.Machine.execPulse s
  | .illegal => Sys2Proof.Machine.execIllegal s
  | .sats dx => Sys2Proof.Machine.execSats dx s
  | .movemLoad mask ea => Sys2Proof.Machine.execMovemLoad mask ea s
  | .trap v => Sys2Proof.Machine.execTrap v s
  | .link ay d16 => Sys2Proof.Machine.execLink ay d16 s
  | .unlk ax => Sys2Proof.Machine.execUnlk ax s
  | .moveToUsp ay => Sys2Proof.Machine.execMoveToUsp ay s
  | .moveFromUsp ax => Sys2Proof.Machine.execMoveFromUsp ax s
  | .nop => Sys2Proof.Machine.execNop s
  | .stop imm => Sys2Proof.Machine.execStop imm s
  | .rte => Sys2Proof.Machine.execRte s
  | .rts => Sys2Proof.Machine.execRts s
  | .movec rn rc => Sys2Proof.Machine.execMovec rn rc s
  | .jsr ea => Sys2Proof.Machine.execJsr ea s
  | .jmp ea => Sys2Proof.Machine.execJmp ea s
  | .stldsr imm => Sys2Proof.Machine.execStldsr imm s
  | .muluL src dx => Sys2Proof.Machine.execMuluL src dx s
  | .mulsL src dx => Sys2Proof.Machine.execMulsL src dx s
  | .divuL src dx => Sys2Proof.Machine.execDivuL src dx s
  | .divsL src dx => Sys2Proof.Machine.execDivsL src dx s
  | .remuL src dw dx => Sys2Proof.Machine.execRemuL src dw dx s
  | .remsL src dw dx => Sys2Proof.Machine.execRemsL src dw dx s
  | .addq q ea => Sys2Proof.Machine.execAddq q ea s
  | .subq q ea => Sys2Proof.Machine.execSubq q ea s
  | .scc c dx => Sys2Proof.Machine.execScc c dx s
  | .tpf => Sys2Proof.Machine.execTpf s
  | .tpfW w => Sys2Proof.Machine.execTpfW w s
  | .tpfL w1 w2 => Sys2Proof.Machine.execTpfL w1 w2 s
  | .bra d => Sys2Proof.Machine.execBra d s
  | .bsr d => Sys2Proof.Machine.execBsr d s
  | .bcc c d => Sys2Proof.Machine.execBcc c d s
  | .moveq d8 dx => Sys2Proof.Machine.execMoveq d8 dx s
  | .mvs sz src dx => Sys2Proof.Machine.execMvs sz src dx s
  | .mvz sz src dx => Sys2Proof.Machine.execMvz sz src dx s
  | .orEaDn src dx => Sys2Proof.Machine.execOrEaDn src dx s
  | .orDnEa dy dst => Sys2Proof.Machine.execOrDnEa dy dst s
  | .divuW src dx => Sys2Proof.Machine.execDivuW src dx s
  | .divsW src dx => Sys2Proof.Machine.execDivsW src dx s
  | .subEaDn src dx => Sys2Proof.Machine.execSubEaDn src dx s
  | .subDnEa dy dst => Sys2Proof.Machine.execSubDnEa dy dst s
  | .subx dy dx => Sys2Proof.Machine.execSubx dy dx s
  | .suba src ax => Sys2Proof.Machine.execSuba src ax s
  | .cmp sz src dx => Sys2Proof.Machine.execCmp sz src dx s
  | .cmpaW src ax => Sys2Proof.Machine.execCmpaW src ax s
  | .cmpaL src ax => Sys2Proof.Machine.execCmpaL src ax s
  | .eor dy dst => Sys2Proof.Machine.execEor dy dst s
  | .andEaDn src dx => Sys2Proof.Machine.execAndEaDn src dx s
  | .andDnEa dy dst => Sys2Proof.Machine.execAndDnEa dy dst s
  | .muluW src dx => Sys2Proof.Machine.execMuluW src dx s
  | .mulsW src dx => Sys2Proof.Machine.execMulsW src dx s
  | .addEaDn src dx => Sys2Proof.Machine.execAddEaDn src dx s
  | .addDnEa dy dst => Sys2Proof.Machine.execAddDnEa dy dst s
  | .addx dy dx => Sys2Proof.Machine.execAddx dy dx s
  | .adda src ax => Sys2Proof.Machine.execAdda src ax s
  | .mov3q q dst => Sys2Proof.Machine.execMov3q q dst s
  | .asl cnt dx => Sys2Proof.Machine.execAsl cnt dx s
  | .asr cnt dx => Sys2Proof.Machine.execAsr cnt dx s
  | .lsl cnt dx => Sys2Proof.Machine.execLsl cnt dx s
  | .lsr cnt dx => Sys2Proof.Machine.execLsr cnt dx s
  | .cpushl cache ax => Sys2Proof.Machine.execCpushl cache ax s
  | .intouch ay => Sys2Proof.Machine.execIntouch ay s
  | .wddata sz src => Sys2Proof.Machine.execWddata sz src s
  | .wdebug src => Sys2Proof.Machine.execWdebug src s

end Sys2Proof.Machine
end

