-- ==== Sys2Proof/WellFormed.lean ====
section
/-! DEFINITION. Which instructions an encoding exists for: the effective address modes each instruction's page lists (spec
40_addressing_modes.md R140 and the instruction rules), the size restrictions and the operand ranges. A term outside `wf` is
no instruction. The configuration (the revision of the instruction set, the divide unit, ...) plays no part here: see
Machine/Presence.lean. -/

namespace Sys2Proof

/-- An immediate of size `sz` (R97): the operand, zero-extended, fits its size. -/
def Size.fits (sz : Size) (v : Long) : Bool :=
  match sz with
  | .byte => decide (v.toNat < 256)
  | .word => decide (v.toNat < 65536)
  | .long => true

/-- "all twelve (An not with byte size, rule R123)". -/
def Ea.any (sz : Size) : Ea → Bool
  | .areg _ => decide (sz ≠ .byte)
  | .imm v => sz.fits v
  | _ => true

/-- "all but An". -/
def Ea.data (sz : Size) : Ea → Bool
  | .areg _ => false
  | .imm v => sz.fits v
  | _ => true

/-- `(An) (An)+ -(An) d16 d8 W L`: alterable memory. -/
def Ea.memoryAlterable : Ea → Bool
  | .ind _ | .postinc _ | .predec _ | .disp _ _ | .index _ _ | .absW _ | .absL _ => true
  | _ => false

/-- `Dn` and alterable memory: data alterable. -/
def Ea.dataAlterable : Ea → Bool
  | .dreg _ => true
  | ea => ea.memoryAlterable

/-- `Dn`, `An` and alterable memory. -/
def Ea.alterable : Ea → Bool
  | .areg _ => true
  | ea => ea.dataAlterable

/-- `Dn (An) (An)+ -(An) d16`: the long multiplies and divides, the static bit instructions. -/
def Ea.short : Ea → Bool
  | .dreg _ | .ind _ | .postinc _ | .predec _ | .disp _ _ => true
  | _ => false

/-- `(An) d16 d8 W L pc16 pc8`: the seven control modes. -/
def Ea.control : Ea → Bool
  | .ind _ | .disp _ _ | .index _ _ | .absW _ | .absL _ | .pcDisp _ | .pcIndex _ => true
  | _ => false

/-- `(An) d16`: MOVEM and WDEBUG. -/
def Ea.block : Ea → Bool
  | .ind _ | .disp _ _ => true
  | _ => false

/-- Data alterable, and the two PC-relative modes: dynamic BTST. -/
def Ea.bitTest : Ea → Bool
  | .pcDisp _ | .pcIndex _ => true
  | ea => ea.dataAlterable

/-- `Dn imm`: MOVE to CCR, MOVE to SR. -/
def Ea.dregOrImm (sz : Size) : Ea → Bool
  | .dreg _ => true
  | .imm v => sz.fits v
  | _ => false

/-- The table of source and destination pairs of MOVE (R150). -/
def movePair (sz : Size) (src dst : Ea) : Bool :=
  src.any sz && dst.dataAlterable &&
  match src with
  | .dreg _ | .areg _ | .ind _ | .postinc _ | .predec _ => true
  | .disp _ _ | .pcDisp _ =>
    match dst with
    | .index _ _ | .absW _ | .absL _ => false
    | _ => true
  | .imm _ =>
    match dst with
    | .disp _ _ => decide (sz ≠ .long)
    | .index _ _ | .absW _ | .absL _ => false
    | _ => true
  | .index _ _ | .pcIndex _ | .absW _ | .absL _ =>
    match dst with
    | .disp _ _ | .index _ _ | .absW _ | .absL _ => false
    | _ => true

/-- The byte form of a branch displacement is neither 0x00 nor 0xFF (R180). -/
def Disp.wf : Disp → Bool
  | .byte d => decide (d ≠ 0x00#8) && decide (d ≠ 0xFF#8)
  | .word _ => true
  | .long _ => true

/-- The instruction has an encoding in the tables R101 to R111. -/
def Instr.wf : Instr → Bool
  | .oriL _ _ | .andiL _ _ | .subiL _ _ | .addiL _ _ | .eoriL _ _ => true
  | .bitrev _ | .byterev _ | .ff1 _ => true
  | .btstImm _ ea | .bchgImm _ ea | .bclrImm _ ea | .bsetImm _ ea => ea.short
  | .btstReg _ ea => ea.bitTest
  | .bchgReg _ ea | .bclrReg _ ea | .bsetReg _ ea => ea.dataAlterable
  | .cmpi sz imm _ => sz.fits imm
  | .moveB src dst => movePair .byte src dst
  | .moveW src dst => movePair .word src dst
  | .moveL src dst => movePair .long src dst
  | .moveaW src _ => src.any .word
  | .moveaL src _ => src.any .long
  | .negx _ | .moveFromSr _ => true
  | .lea src _ => src.control
  | .clr _ ea => ea.dataAlterable
  | .moveFromCcr _ | .neg _ => true
  | .moveToCcr src => src.dregOrImm .byte
  | .not _ => true
  | .moveToSr src => src.dregOrImm .word
  | .swap _ => true
  | .pea src => src.control
  | .extW _ | .extL _ => true
  | .movemStore _ ea => ea.block
  | .extbL _ => true
  | .tst sz src => src.any sz
  | .tas ea => ea.memoryAlterable
  | .halt | .pulse | .illegal | .sats _ => true
  | .movemLoad _ ea => ea.block
  | .trap _ | .link _ _ | .unlk _ | .moveToUsp _ | .moveFromUsp _ => true
  | .nop | .stop _ | .rte | .rts | .movec _ _ => true
  | .jsr ea | .jmp ea => ea.control
  | .stldsr _ => true
  | .muluL src _ | .mulsL src _ | .divuL src _ | .divsL src _ => src.short
  | .remuL src dw dx | .remsL src dw dx => src.short && decide (dw ≠ dx)
  | .addq _ ea | .subq _ ea => ea.alterable
  | .scc _ _ | .tpf | .tpfW _ | .tpfL _ _ => true
  | .bra d | .bsr d => d.wf
  | .bcc c d => decide (c ≠ .t) && decide (c ≠ .f) && d.wf
  | .moveq _ _ => true
  | .mvs sz src _ | .mvz sz src _ => decide (sz ≠ .long) && src.any sz
  | .orEaDn src _ => src.data .long
  | .orDnEa _ dst => dst.memoryAlterable
  | .divuW src _ | .divsW src _ => src.data .word
  | .subEaDn src _ => src.any .long
  | .subDnEa _ dst => dst.memoryAlterable
  | .subx _ _ => true
  | .suba src _ => src.any .long
  | .cmp sz src _ => src.any sz
  | .cmpaW src _ => src.any .word
  | .cmpaL src _ => src.any .long
  | .eor _ dst => dst.dataAlterable
  | .andEaDn src _ => src.data .long
  | .andDnEa _ dst => dst.memoryAlterable
  | .muluW src _ | .mulsW src _ => src.data .word
  | .addEaDn src _ => src.any .long
  | .addDnEa _ dst => dst.memoryAlterable
  | .addx _ _ => true
  | .adda src _ => src.any .long
  | .mov3q _ dst => dst.alterable
  | .asl _ _ | .asr _ _ | .lsl _ _ | .lsr _ _ => true
  | .cpushl _ _ | .intouch _ => true
  | .wddata _ src => src.memoryAlterable
  | .wdebug src => src.block

end Sys2Proof
end

