-- ==== Sys2Proof/Decode.lean ====
section
/-! DEFINITION. From instruction words to instructions and back (spec 30_encoding.md R90 to R118). The rows of the opcode map
stand line by line (bits 15 to 12 of the opword) as in R101 to R111; in a line, a row with more fixed bits stands before a
row with fewer (R112). Words are big-endian byte pairs (20_memory.md R62). -/

namespace Sys2Proof

/-- Why the decoder rejects. -/
inductive DecodeError where
  /-- The opword (with its second word) is assigned to no instruction (R114). -/
  | unassigned
  /-- The instruction needs more words than were given. -/
  | truncated
deriving DecidableEq, Repr

/-- A reader of instruction words: what it read and the words that are left, or the reason it rejects. -/
abbrev Parser (α : Type) := List Word → Except DecodeError (α × List Word)

/-- The reader that takes nothing. -/
def Parser.done {α : Type} (x : α) : Parser α := fun ws => .ok (x, ws)

/-- The reader that rejects the encoding. -/
def Parser.reject {α : Type} : Parser α := fun _ => .error .unassigned

/-- Takes the next word. -/
def withWord {α : Type} (k : Word → Parser α) : Parser α
  | [] => .error .truncated
  | w :: ws => k w ws

/-- Takes two words, the high-order word first (R93, R97). -/
def withLong {α : Type} (k : Long → Parser α) : Parser α :=
  withWord fun h => withWord fun l => k (h ++ l)

/-- A register number from a three-bit field. -/
def regOf (n : Nat) : Fin 8 := Fin.ofNat 8 n

/-- The register field, bits 2 to 0. -/
def reg0 (w : Nat) : Fin 8 := regOf (w % 8)

/-- The register or data field, bits 11 to 9. -/
def reg9 (w : Nat) : Fin 8 := regOf (w / 512 % 8)

/-- Takes the immediate operand of size `sz`, zero-extended (R97). -/
def withImm {α : Type} (sz : Size) (k : Long → Parser α) : Parser α :=
  match sz with
  | .byte => withWord fun w => k ((w.setWidth 8).setWidth 32)
  | .word => withWord fun w => k (w.setWidth 32)
  | .long => withLong k

/-- Takes the extension words of the effective address with mode field `m` and register field `r` (R94, R120). -/
def withEa {α : Type} (sz : Size) (m r : Nat) (k : Ea → Parser α) : Parser α :=
  match m with
  | 0 => k (.dreg (regOf r))
  | 1 => k (.areg (regOf r))
  | 2 => k (.ind (regOf r))
  | 3 => k (.postinc (regOf r))
  | 4 => k (.predec (regOf r))
  | 5 => withWord fun d => k (.disp (regOf r) d)
  | 6 => withWord fun w => k (.index (regOf r) w)
  | _ =>
    match r with
    | 0 => withWord fun w => k (.absW w)
    | 1 => withLong fun l => k (.absL l)
    | 2 => withWord fun d => k (.pcDisp d)
    | 3 => withWord fun w => k (.pcIndex w)
    | 4 => withImm sz fun v => k (.imm v)
    | _ => Parser.reject

/-- The effective address in bits 5 to 0 (R91). -/
def withEa0 {α : Type} (sz : Size) (w : Nat) (k : Ea → Parser α) : Parser α :=
  withEa sz (w / 8 % 8) (w % 8) k

/-- The destination effective address of MOVE: register in bits 11 to 9, mode in bits 8 to 6 (R91). -/
def withEa6 {α : Type} (sz : Size) (w : Nat) (k : Ea → Parser α) : Parser α :=
  withEa sz (w / 64 % 8) (w / 512 % 8) k

/-- The bit number word of a static bit instruction; its upper byte is zero (R101, R115 (f)). -/
def withBitNumber {α : Type} (k : Byte → Parser α) : Parser α :=
  withWord fun w => if w.toNat < 256 then k (w.setWidth 8) else Parser.reject

/-- The size field in bits 7 to 6 of CLR, TST, CMPI and WDDATA (R98 (ii), (v)). -/
def withSize {α : Type} (w : Nat) (k : Size → Parser α) : Parser α :=
  match w / 64 % 4 with
  | 0 => k .byte
  | 1 => k .word
  | 2 => k .long
  | _ => Parser.reject

/-- The condition with code `n` (R181). -/
def condOf (n : Nat) : Cond :=
  match n with
  | 0 => .t | 1 => .f | 2 => .hi | 3 => .ls | 4 => .cc | 5 => .cs | 6 => .ne | 7 => .eq
  | 8 => .vc | 9 => .vs | 10 => .pl | 11 => .mi | 12 => .ge | 13 => .lt | 14 => .gt | _ => .le

/-- The displacement of a branch: bits 7 to 0, or one or two words (R106, R180). -/
def withDisp {α : Type} (w : Nat) (k : Disp → Parser α) : Parser α :=
  if w % 256 = 0x00 then withWord fun d => k (.word d)
  else if w % 256 = 0xFF then withLong fun d => k (.long d)
  else k (.byte (BitVec.ofNat 8 w))

/-- The count of a shift: bit 5 selects the register form (R110). -/
def countOf (w : Nat) : ShiftCount :=
  if w / 32 % 2 = 1 then .reg (reg9 w) else .imm (reg9 w)

/-- The second word of MULU.L and MULS.L: `0xxx s000 0000 0000` (R104). -/
def withMul {α : Type} (k : Bool → Fin 8 → Parser α) : Parser α :=
  withWord fun w =>
    if w.toNat &&& 0x87FF = 0 then k (w.toNat / 2048 % 2 = 1) (regOf (w.toNat / 4096 % 8)) else Parser.reject

/-- The second word of the long divides and remainders: `0xxx s000 0000 0www` (R104); yields `s`, `www`, `xxx`. -/
def withDiv {α : Type} (k : Bool → Fin 8 → Fin 8 → Parser α) : Parser α :=
  withWord fun w =>
    if w.toNat &&& 0x87F8 = 0 then
      k (w.toNat / 2048 % 2 = 1) (regOf (w.toNat % 8)) (regOf (w.toNat / 4096 % 8))
    else Parser.reject

/-- The instruction of the opword group 0x4C00 (R104). -/
def mulInstr (signed : Bool) (src : Ea) (dx : Fin 8) : Instr :=
  if signed then .mulsL src dx else .muluL src dx

/-- The instruction of the opword group 0x4C40: a divide when `www = xxx`, a remainder otherwise (R104). -/
def divInstr (signed : Bool) (src : Ea) (dw dx : Fin 8) : Instr :=
  if dw = dx then (if signed then .divsL src dx else .divuL src dx)
  else (if signed then .remsL src dw dx else .remuL src dw dx)

/-- The cache field of CPUSHL, bits 7 to 6 (R111). -/
def withCache {α : Type} (w : Nat) (k : CacheSel → Parser α) : Parser α :=
  match w / 64 % 4 with
  | 1 => k .dc
  | 2 => k .ic
  | 3 => k .bc
  | _ => Parser.reject

/-- A row of the opcode map: an opword `w` fits it when `w &&& mask = pattern` (R112). -/
structure Row where
  mask : Nat
  pattern : Nat
  read : Nat → Parser Instr

/-- The opword fits the row. -/
def Row.fits (row : Row) (w : Nat) : Bool := w &&& row.mask == row.pattern

/-- Line 0000 (R101). -/
def line0 : List Row := [
  ⟨0xFFF8, 0x0080, fun w => withLong fun v => .done (.oriL v (reg0 w))⟩,
  ⟨0xFFF8, 0x0280, fun w => withLong fun v => .done (.andiL v (reg0 w))⟩,
  ⟨0xFFF8, 0x0480, fun w => withLong fun v => .done (.subiL v (reg0 w))⟩,
  ⟨0xFFF8, 0x0680, fun w => withLong fun v => .done (.addiL v (reg0 w))⟩,
  ⟨0xFFF8, 0x0A80, fun w => withLong fun v => .done (.eoriL v (reg0 w))⟩,
  ⟨0xFFF8, 0x00C0, fun w => .done (.bitrev (reg0 w))⟩,
  ⟨0xFFF8, 0x02C0, fun w => .done (.byterev (reg0 w))⟩,
  ⟨0xFFF8, 0x04C0, fun w => .done (.ff1 (reg0 w))⟩,
  ⟨0xFF38, 0x0C00, fun w => withSize w fun sz => withImm sz fun v => .done (.cmpi sz v (reg0 w))⟩,
  ⟨0xFFC0, 0x0800, fun w => withBitNumber fun b => withEa0 .byte w fun ea => .done (.btstImm b ea)⟩,
  ⟨0xFFC0, 0x0840, fun w => withBitNumber fun b => withEa0 .byte w fun ea => .done (.bchgImm b ea)⟩,
  ⟨0xFFC0, 0x0880, fun w => withBitNumber fun b => withEa0 .byte w fun ea => .done (.bclrImm b ea)⟩,
  ⟨0xFFC0, 0x08C0, fun w => withBitNumber fun b => withEa0 .byte w fun ea => .done (.bsetImm b ea)⟩,
  ⟨0xF1C0, 0x0100, fun w => withEa0 .byte w fun ea => .done (.btstReg (reg9 w) ea)⟩,
  ⟨0xF1C0, 0x0140, fun w => withEa0 .byte w fun ea => .done (.bchgReg (reg9 w) ea)⟩,
  ⟨0xF1C0, 0x0180, fun w => withEa0 .byte w fun ea => .done (.bclrReg (reg9 w) ea)⟩,
  ⟨0xF1C0, 0x01C0, fun w => withEa0 .byte w fun ea => .done (.bsetReg (reg9 w) ea)⟩]

/-- Line 0001: MOVE.B (R102). -/
def line1 : List Row := [
  ⟨0xF000, 0x1000, fun w => withEa0 .byte w fun s => withEa6 .byte w fun d => .done (.moveB s d)⟩]

/-- Line 0010: MOVEA.L, MOVE.L (R102). -/
def line2 : List Row := [
  ⟨0xF1C0, 0x2040, fun w => withEa0 .long w fun s => .done (.moveaL s (reg9 w))⟩,
  ⟨0xF000, 0x2000, fun w => withEa0 .long w fun s => withEa6 .long w fun d => .done (.moveL s d)⟩]

/-- Line 0011: MOVEA.W, MOVE.W (R102). -/
def line3 : List Row := [
  ⟨0xF1C0, 0x3040, fun w => withEa0 .word w fun s => .done (.moveaW s (reg9 w))⟩,
  ⟨0xF000, 0x3000, fun w => withEa0 .word w fun s => withEa6 .word w fun d => .done (.moveW s d)⟩]

/-- Line 0100 (R103, R104). -/
def line4 : List Row := [
  ⟨0xFFFF, 0x40E7, fun _ => withWord fun w2 =>
    if w2 = 0x46FC#16 then withWord fun v => .done (.stldsr v) else Parser.reject⟩,
  ⟨0xFFFF, 0x4AC8, fun _ => .done .halt⟩,
  ⟨0xFFFF, 0x4ACC, fun _ => .done .pulse⟩,
  ⟨0xFFFF, 0x4AFC, fun _ => .done .illegal⟩,
  ⟨0xFFFF, 0x4E71, fun _ => .done .nop⟩,
  ⟨0xFFFF, 0x4E72, fun _ => withWord fun v => .done (.stop v)⟩,
  ⟨0xFFFF, 0x4E73, fun _ => .done .rte⟩,
  ⟨0xFFFF, 0x4E75, fun _ => .done .rts⟩,
  ⟨0xFFFF, 0x4E7B, fun _ => withWord fun v => .done (.movec (Fin.ofNat 16 (v.toNat / 4096)) (v.setWidth 12))⟩,
  ⟨0xFFF8, 0x4080, fun w => .done (.negx (reg0 w))⟩,
  ⟨0xFFF8, 0x40C0, fun w => .done (.moveFromSr (reg0 w))⟩,
  ⟨0xFFF8, 0x42C0, fun w => .done (.moveFromCcr (reg0 w))⟩,
  ⟨0xFFF8, 0x4480, fun w => .done (.neg (reg0 w))⟩,
  ⟨0xFFF8, 0x4680, fun w => .done (.not (reg0 w))⟩,
  ⟨0xFFF8, 0x4840, fun w => .done (.swap (reg0 w))⟩,
  ⟨0xFFF8, 0x4880, fun w => .done (.extW (reg0 w))⟩,
  ⟨0xFFF8, 0x48C0, fun w => .done (.extL (reg0 w))⟩,
  ⟨0xFFF8, 0x49C0, fun w => .done (.extbL (reg0 w))⟩,
  ⟨0xFFF8, 0x4C80, fun w => .done (.sats (reg0 w))⟩,
  ⟨0xFFF8, 0x4E50, fun w => withWord fun d => .done (.link (reg0 w) d)⟩,
  ⟨0xFFF8, 0x4E58, fun w => .done (.unlk (reg0 w))⟩,
  ⟨0xFFF8, 0x4E60, fun w => .done (.moveToUsp (reg0 w))⟩,
  ⟨0xFFF8, 0x4E68, fun w => .done (.moveFromUsp (reg0 w))⟩,
  ⟨0xFFF0, 0x4E40, fun w => .done (.trap (Fin.ofNat 16 w))⟩,
  ⟨0xFFC0, 0x44C0, fun w => withEa0 .byte w fun s => .done (.moveToCcr s)⟩,
  ⟨0xFFC0, 0x46C0, fun w => withEa0 .word w fun s => .done (.moveToSr s)⟩,
  ⟨0xFFC0, 0x4840, fun w => withEa0 .long w fun s => .done (.pea s)⟩,
  ⟨0xFFC0, 0x48C0, fun w => withWord fun m => withEa0 .long w fun ea => .done (.movemStore m ea)⟩,
  ⟨0xFFC0, 0x4AC0, fun w => withEa0 .byte w fun ea => .done (.tas ea)⟩,
  ⟨0xFFC0, 0x4C00, fun w => withMul fun sg dx => withEa0 .long w fun s => .done (mulInstr sg s dx)⟩,
  ⟨0xFFC0, 0x4C40, fun w => withDiv fun sg dw dx => withEa0 .long w fun s => .done (divInstr sg s dw dx)⟩,
  ⟨0xFFC0, 0x4CC0, fun w => withWord fun m => withEa0 .long w fun ea => .done (.movemLoad m ea)⟩,
  ⟨0xFFC0, 0x4E80, fun w => withEa0 .long w fun ea => .done (.jsr ea)⟩,
  ⟨0xFFC0, 0x4EC0, fun w => withEa0 .long w fun ea => .done (.jmp ea)⟩,
  ⟨0xFF00, 0x4200, fun w => withSize w fun sz => withEa0 sz w fun ea => .done (.clr sz ea)⟩,
  ⟨0xFF00, 0x4A00, fun w => withSize w fun sz => withEa0 sz w fun ea => .done (.tst sz ea)⟩,
  ⟨0xF1C0, 0x41C0, fun w => withEa0 .long w fun s => .done (.lea s (reg9 w))⟩]

/-- Line 0101 (R105). -/
def line5 : List Row := [
  ⟨0xFFFF, 0x51FC, fun _ => .done .tpf⟩,
  ⟨0xFFFF, 0x51FA, fun _ => withWord fun v => .done (.tpfW v)⟩,
  ⟨0xFFFF, 0x51FB, fun _ => withWord fun v => withWord fun u => .done (.tpfL v u)⟩,
  ⟨0xF0F8, 0x50C0, fun w => .done (.scc (condOf (w / 256 % 16)) (reg0 w))⟩,
  ⟨0xF1C0, 0x5080, fun w => withEa0 .long w fun ea => .done (.addq (reg9 w) ea)⟩,
  ⟨0xF1C0, 0x5180, fun w => withEa0 .long w fun ea => .done (.subq (reg9 w) ea)⟩]

/-- Line 0110 (R106). -/
def line6 : List Row := [
  ⟨0xFF00, 0x6000, fun w => withDisp w fun d => .done (.bra d)⟩,
  ⟨0xFF00, 0x6100, fun w => withDisp w fun d => .done (.bsr d)⟩,
  ⟨0xF000, 0x6000, fun w => withDisp w fun d => .done (.bcc (condOf (w / 256 % 16)) d)⟩]

/-- Line 0111 (R107). -/
def line7 : List Row := [
  ⟨0xF1C0, 0x7100, fun w => withEa0 .byte w fun s => .done (.mvs .byte s (reg9 w))⟩,
  ⟨0xF1C0, 0x7140, fun w => withEa0 .word w fun s => .done (.mvs .word s (reg9 w))⟩,
  ⟨0xF1C0, 0x7180, fun w => withEa0 .byte w fun s => .done (.mvz .byte s (reg9 w))⟩,
  ⟨0xF1C0, 0x71C0, fun w => withEa0 .word w fun s => .done (.mvz .word s (reg9 w))⟩,
  ⟨0xF100, 0x7000, fun w => .done (.moveq (BitVec.ofNat 8 w) (reg9 w))⟩]

/-- Line 1000 (R108). -/
def line8 : List Row := [
  ⟨0xF1C0, 0x8080, fun w => withEa0 .long w fun s => .done (.orEaDn s (reg9 w))⟩,
  ⟨0xF1C0, 0x80C0, fun w => withEa0 .word w fun s => .done (.divuW s (reg9 w))⟩,
  ⟨0xF1C0, 0x8180, fun w => withEa0 .long w fun d => .done (.orDnEa (reg9 w) d)⟩,
  ⟨0xF1C0, 0x81C0, fun w => withEa0 .word w fun s => .done (.divsW s (reg9 w))⟩]

/-- Line 1001 (R108). -/
def line9 : List Row := [
  ⟨0xF1F8, 0x9180, fun w => .done (.subx (reg0 w) (reg9 w))⟩,
  ⟨0xF1C0, 0x9080, fun w => withEa0 .long w fun s => .done (.subEaDn s (reg9 w))⟩,
  ⟨0xF1C0, 0x9180, fun w => withEa0 .long w fun d => .done (.subDnEa (reg9 w) d)⟩,
  ⟨0xF1C0, 0x91C0, fun w => withEa0 .long w fun s => .done (.suba s (reg9 w))⟩]

/-- Line 1010: MOV3Q (R109). -/
def lineA : List Row := [
  ⟨0xF1C0, 0xA140, fun w => withEa0 .long w fun d => .done (.mov3q (reg9 w) d)⟩]

/-- Line 1011 (R108). -/
def lineB : List Row := [
  ⟨0xF1C0, 0xB000, fun w => withEa0 .byte w fun s => .done (.cmp .byte s (reg9 w))⟩,
  ⟨0xF1C0, 0xB040, fun w => withEa0 .word w fun s => .done (.cmp .word s (reg9 w))⟩,
  ⟨0xF1C0, 0xB080, fun w => withEa0 .long w fun s => .done (.cmp .long s (reg9 w))⟩,
  ⟨0xF1C0, 0xB0C0, fun w => withEa0 .word w fun s => .done (.cmpaW s (reg9 w))⟩,
  ⟨0xF1C0, 0xB180, fun w => withEa0 .long w fun d => .done (.eor (reg9 w) d)⟩,
  ⟨0xF1C0, 0xB1C0, fun w => withEa0 .long w fun s => .done (.cmpaL s (reg9 w))⟩]

/-- Line 1100 (R108). -/
def lineC : List Row := [
  ⟨0xF1C0, 0xC080, fun w => withEa0 .long w fun s => .done (.andEaDn s (reg9 w))⟩,
  ⟨0xF1C0, 0xC0C0, fun w => withEa0 .word w fun s => .done (.muluW s (reg9 w))⟩,
  ⟨0xF1C0, 0xC180, fun w => withEa0 .long w fun d => .done (.andDnEa (reg9 w) d)⟩,
  ⟨0xF1C0, 0xC1C0, fun w => withEa0 .word w fun s => .done (.mulsW s (reg9 w))⟩]

/-- Line 1101 (R108). -/
def lineD : List Row := [
  ⟨0xF1F8, 0xD180, fun w => .done (.addx (reg0 w) (reg9 w))⟩,
  ⟨0xF1C0, 0xD080, fun w => withEa0 .long w fun s => .done (.addEaDn s (reg9 w))⟩,
  ⟨0xF1C0, 0xD180, fun w => withEa0 .long w fun d => .done (.addDnEa (reg9 w) d)⟩,
  ⟨0xF1C0, 0xD1C0, fun w => withEa0 .long w fun s => .done (.adda s (reg9 w))⟩]

/-- Line 1110 (R110). -/
def lineE : List Row := [
  ⟨0xF1D8, 0xE080, fun w => .done (.asr (countOf w) (reg0 w))⟩,
  ⟨0xF1D8, 0xE180, fun w => .done (.asl (countOf w) (reg0 w))⟩,
  ⟨0xF1D8, 0xE088, fun w => .done (.lsr (countOf w) (reg0 w))⟩,
  ⟨0xF1D8, 0xE188, fun w => .done (.lsl (countOf w) (reg0 w))⟩]

/-- Line 1111 (R111). -/
def lineF : List Row := [
  ⟨0xFFF8, 0xF428, fun w => .done (.intouch (reg0 w))⟩,
  ⟨0xFF38, 0xF428, fun w => withCache w fun c => .done (.cpushl c (reg0 w))⟩,
  ⟨0xFFC0, 0xFBC0, fun w => withWord fun w2 =>
    if w2 = 0x0003#16 then withEa0 .long w fun s => .done (.wdebug s) else Parser.reject⟩,
  ⟨0xFF00, 0xFB00, fun w => withSize w fun sz => withEa0 sz w fun s => .done (.wddata sz s)⟩]

/-- The rows of the line `n` (bits 15 to 12). -/
def opcodeLine (n : Nat) : List Row :=
  match n with
  | 0 => line0 | 1 => line1 | 2 => line2 | 3 => line3 | 4 => line4 | 5 => line5 | 6 => line6 | 7 => line7
  | 8 => line8 | 9 => line9 | 10 => lineA | 11 => lineB | 12 => lineC | 13 => lineD | 14 => lineE | _ => lineF

/-- The instruction carries only modes and sizes its rule lists (R112 (iii)). -/
def legal (i : Instr) : Bool := i.wf

/-- Reads one instruction from the words at its address; what is left are the words after it. -/
def decode : List Word → Except DecodeError (Instr × List Word)
  | [] => .error .truncated
  | w :: ws =>
    match (opcodeLine (w.toNat / 4096)).find? (fun row => row.fits w.toNat) with
    | none => .error .unassigned
    | some row =>
      match row.read w.toNat ws with
      | .error e => .error e
      | .ok (i, rest) => if legal i then .ok (i, rest) else .error .unassigned

/-- The words of a sequence of bytes: the byte at the lower address is the high-order byte (R62). -/
def wordsOfBytes : List Byte → List Word
  | h :: l :: rest => (h ++ l) :: wordsOfBytes rest
  | _ => []

/-- The bytes of a sequence of words, as the hardware stores them (R62). -/
def bytesOfWords : List Word → List Byte
  | [] => []
  | w :: ws => w.extractLsb' 8 8 :: w.extractLsb' 0 8 :: bytesOfWords ws

/-- Reads one instruction from bytes. -/
def decodeBytes (bs : List Byte) : Except DecodeError (Instr × List Word) := decode (wordsOfBytes bs)

/-- The instruction words of a number whose bits are numbered as spec/opcode_table.json numbers them: the first word is bits
15 to 0, the second bits 31 to 16, the third bits 47 to 32; bits from `nbits` up are zero. -/
def tableWords (nbits w : Nat) : List Word :=
  let v := w % 2 ^ nbits
  [BitVec.ofNat 16 v, BitVec.ofNat 16 (v / 65536), BitVec.ofNat 16 (v / 4294967296)]

/-- The instruction the decoder reads from an instruction whose bits are `w`. -/
def decodeTableWord (nbits w : Nat) : Option Instr :=
  match decodeBytes (bytesOfWords (tableWords nbits w)) with
  | .ok (i, _) => some i
  | .error _ => none

/-! The encoder, from the same tables. -/

/-- An opword. -/
def op (n : Nat) : Word := BitVec.ofNat 16 n

/-- The two words of a longword, the high-order word first. -/
def longWords (v : Long) : List Word := [v.extractLsb' 16 16, v.extractLsb' 0 16]

/-- The words of an immediate of size `sz` (R97). -/
def immWords (sz : Size) (v : Long) : List Word :=
  match sz with
  | .byte => [(v.setWidth 8).setWidth 16]
  | .word => [v.setWidth 16]
  | .long => longWords v

/-- The mode field (R120). -/
def Ea.modeField : Ea → Nat
  | .dreg _ => 0
  | .areg _ => 1
  | .ind _ => 2
  | .postinc _ => 3
  | .predec _ => 4
  | .disp _ _ => 5
  | .index _ _ => 6
  | _ => 7

/-- The register field (R120). -/
def Ea.regField : Ea → Nat
  | .dreg n | .areg n | .ind n | .postinc n | .predec n => n.val
  | .disp n _ | .index n _ => n.val
  | .absW _ => 0
  | .absL _ => 1
  | .pcDisp _ => 2
  | .pcIndex _ => 3
  | .imm _ => 4

/-- The effective address field in bits 5 to 0. -/
def Ea.field0 (ea : Ea) : Nat := ea.modeField * 8 + ea.regField

/-- The destination field of MOVE in bits 11 to 6. -/
def Ea.field6 (ea : Ea) : Nat := ea.regField * 512 + ea.modeField * 64

/-- The extension words (R94). -/
def Ea.ext (sz : Size) : Ea → List Word
  | .disp _ w | .index _ w | .absW w | .pcDisp w | .pcIndex w => [w]
  | .absL l => longWords l
  | .imm v => immWords sz v
  | _ => []

/-- The size field of CLR, TST, CMPI and WDDATA, in bits 7 to 6. -/
def Size.ss : Size → Nat
  | .byte => 0
  | .word => 64
  | .long => 128

/-- The code of a condition (R181). -/
def Cond.code : Cond → Nat
  | .t => 0 | .f => 1 | .hi => 2 | .ls => 3 | .cc => 4 | .cs => 5 | .ne => 6 | .eq => 7
  | .vc => 8 | .vs => 9 | .pl => 10 | .mi => 11 | .ge => 12 | .lt => 13 | .gt => 14 | .le => 15

/-- A branch: the opword with its displacement byte, and the displacement words. -/
def Disp.encode (base : Nat) : Disp → List Word
  | .byte d => [op (base + d.toNat)]
  | .word d => [op base, d]
  | .long d => op (base + 0xFF) :: longWords d

/-- The fields `ccc` and `i` of a shift. -/
def ShiftCount.field : ShiftCount → Nat
  | .imm c => c.val * 512
  | .reg dy => dy.val * 512 + 32

/-- The cache field of CPUSHL. -/
def CacheSel.field : CacheSel → Nat
  | .dc => 64
  | .ic => 128
  | .bc => 192

/-- An instruction `base` with a register in bits 11 to 9 and an effective address in bits 5 to 0. -/
def encodeRegEa (base : Nat) (sz : Size) (r : Fin 8) (ea : Ea) : List Word :=
  op (base + r.val * 512 + ea.field0) :: ea.ext sz

/-- An instruction `base` with an own second word and an effective address in bits 5 to 0. -/
def encodeOwnEa (base : Nat) (sz : Size) (own : Word) (ea : Ea) : List Word :=
  op (base + ea.field0) :: own :: ea.ext sz

/-- An instruction `base` with an effective address in bits 5 to 0. -/
def encodeEa (base : Nat) (sz : Size) (ea : Ea) : List Word :=
  op (base + ea.field0) :: ea.ext sz

/-- MOVE: the source's extension words come before the destination's (R93 (c)). -/
def encodeMove (base : Nat) (sz : Size) (src dst : Ea) : List Word :=
  op (base + dst.field6 + src.field0) :: (src.ext sz ++ dst.ext sz)

/-- The words of an instruction. -/
def encode : Instr → List Word
  | .oriL v dx => op (0x0080 + dx.val) :: longWords v
  | .andiL v dx => op (0x0280 + dx.val) :: longWords v
  | .subiL v dx => op (0x0480 + dx.val) :: longWords v
  | .addiL v dx => op (0x0680 + dx.val) :: longWords v
  | .eoriL v dx => op (0x0A80 + dx.val) :: longWords v
  | .bitrev dx => [op (0x00C0 + dx.val)]
  | .byterev dx => [op (0x02C0 + dx.val)]
  | .ff1 dx => [op (0x04C0 + dx.val)]
  | .btstImm b ea => encodeOwnEa 0x0800 .byte (b.setWidth 16) ea
  | .bchgImm b ea => encodeOwnEa 0x0840 .byte (b.setWidth 16) ea
  | .bclrImm b ea => encodeOwnEa 0x0880 .byte (b.setWidth 16) ea
  | .bsetImm b ea => encodeOwnEa 0x08C0 .byte (b.setWidth 16) ea
  | .btstReg dy ea => encodeRegEa 0x0100 .byte dy ea
  | .bchgReg dy ea => encodeRegEa 0x0140 .byte dy ea
  | .bclrReg dy ea => encodeRegEa 0x0180 .byte dy ea
  | .bsetReg dy ea => encodeRegEa 0x01C0 .byte dy ea
  | .cmpi sz v dx => op (0x0C00 + sz.ss + dx.val) :: immWords sz v
  | .moveB src dst => encodeMove 0x1000 .byte src dst
  | .moveW src dst => encodeMove 0x3000 .word src dst
  | .moveL src dst => encodeMove 0x2000 .long src dst
  | .moveaW src ax => encodeRegEa 0x3040 .word ax src
  | .moveaL src ax => encodeRegEa 0x2040 .long ax src
  | .negx dx => [op (0x4080 + dx.val)]
  | .moveFromSr dx => [op (0x40C0 + dx.val)]
  | .lea src ax => encodeRegEa 0x41C0 .long ax src
  | .clr sz ea => encodeEa (0x4200 + sz.ss) sz ea
  | .moveFromCcr dx => [op (0x42C0 + dx.val)]
  | .neg dx => [op (0x4480 + dx.val)]
  | .moveToCcr src => encodeEa 0x44C0 .byte src
  | .not dx => [op (0x4680 + dx.val)]
  | .moveToSr src => encodeEa 0x46C0 .word src
  | .swap dx => [op (0x4840 + dx.val)]
  | .pea src => encodeEa 0x4840 .long src
  | .extW dx => [op (0x4880 + dx.val)]
  | .extL dx => [op (0x48C0 + dx.val)]
  | .movemStore m ea => encodeOwnEa 0x48C0 .long m ea
  | .extbL dx => [op (0x49C0 + dx.val)]
  | .tst sz src => encodeEa (0x4A00 + sz.ss) sz src
  | .tas ea => encodeEa 0x4AC0 .byte ea
  | .halt => [op 0x4AC8]
  | .pulse => [op 0x4ACC]
  | .illegal => [op 0x4AFC]
  | .sats dx => [op (0x4C80 + dx.val)]
  | .movemLoad m ea => encodeOwnEa 0x4CC0 .long m ea
  | .trap v => [op (0x4E40 + v.val)]
  | .link ay d => [op (0x4E50 + ay.val), d]
  | .unlk ax => [op (0x4E58 + ax.val)]
  | .moveToUsp ay => [op (0x4E60 + ay.val)]
  | .moveFromUsp ax => [op (0x4E68 + ax.val)]
  | .nop => [op 0x4E71]
  | .stop v => [op 0x4E72, v]
  | .rte => [op 0x4E73]
  | .rts => [op 0x4E75]
  | .movec rn rc => [op 0x4E7B, op (rn.val * 4096 + rc.toNat)]
  | .jsr ea => encodeEa 0x4E80 .long ea
  | .jmp ea => encodeEa 0x4EC0 .long ea
  | .stldsr v => [op 0x40E7, op 0x46FC, v]
  | .muluL src dx => encodeOwnEa 0x4C00 .long (op (dx.val * 4096)) src
  | .mulsL src dx => encodeOwnEa 0x4C00 .long (op (dx.val * 4096 + 0x0800)) src
  | .divuL src dx => encodeOwnEa 0x4C40 .long (op (dx.val * 4096 + dx.val)) src
  | .divsL src dx => encodeOwnEa 0x4C40 .long (op (dx.val * 4096 + 0x0800 + dx.val)) src
  | .remuL src dw dx => encodeOwnEa 0x4C40 .long (op (dx.val * 4096 + dw.val)) src
  | .remsL src dw dx => encodeOwnEa 0x4C40 .long (op (dx.val * 4096 + 0x0800 + dw.val)) src
  | .addq q ea => encodeRegEa 0x5080 .long q ea
  | .subq q ea => encodeRegEa 0x5180 .long q ea
  | .scc c dx => [op (0x50C0 + c.code * 256 + dx.val)]
  | .tpf => [op 0x51FC]
  | .tpfW v => [op 0x51FA, v]
  | .tpfL v u => [op 0x51FB, v, u]
  | .bra d => d.encode 0x6000
  | .bsr d => d.encode 0x6100
  | .bcc c d => d.encode (0x6000 + c.code * 256)
  | .moveq d dx => [op (0x7000 + dx.val * 512 + d.toNat)]
  | .mvs sz src dx => encodeRegEa (0x7100 + sz.ss) sz dx src
  | .mvz sz src dx => encodeRegEa (0x7180 + sz.ss) sz dx src
  | .orEaDn src dx => encodeRegEa 0x8080 .long dx src
  | .orDnEa dy dst => encodeRegEa 0x8180 .long dy dst
  | .divuW src dx => encodeRegEa 0x80C0 .word dx src
  | .divsW src dx => encodeRegEa 0x81C0 .word dx src
  | .subEaDn src dx => encodeRegEa 0x9080 .long dx src
  | .subDnEa dy dst => encodeRegEa 0x9180 .long dy dst
  | .subx dy dx => [op (0x9180 + dx.val * 512 + dy.val)]
  | .suba src ax => encodeRegEa 0x91C0 .long ax src
  | .cmp sz src dx => encodeRegEa (0xB000 + sz.ss) sz dx src
  | .cmpaW src ax => encodeRegEa 0xB0C0 .word ax src
  | .cmpaL src ax => encodeRegEa 0xB1C0 .long ax src
  | .eor dy dst => encodeRegEa 0xB180 .long dy dst
  | .andEaDn src dx => encodeRegEa 0xC080 .long dx src
  | .andDnEa dy dst => encodeRegEa 0xC180 .long dy dst
  | .muluW src dx => encodeRegEa 0xC0C0 .word dx src
  | .mulsW src dx => encodeRegEa 0xC1C0 .word dx src
  | .addEaDn src dx => encodeRegEa 0xD080 .long dx src
  | .addDnEa dy dst => encodeRegEa 0xD180 .long dy dst
  | .addx dy dx => [op (0xD180 + dx.val * 512 + dy.val)]
  | .adda src ax => encodeRegEa 0xD1C0 .long ax src
  | .mov3q q dst => encodeRegEa 0xA140 .long q dst
  | .asl cnt dx => [op (0xE180 + cnt.field + dx.val)]
  | .asr cnt dx => [op (0xE080 + cnt.field + dx.val)]
  | .lsl cnt dx => [op (0xE188 + cnt.field + dx.val)]
  | .lsr cnt dx => [op (0xE088 + cnt.field + dx.val)]
  | .cpushl c ax => [op (0xF428 + c.field + ax.val)]
  | .intouch ay => [op (0xF428 + ay.val)]
  | .wddata sz src => encodeEa (0xFB00 + sz.ss) sz src
  | .wdebug src => encodeOwnEa 0xFBC0 .long 0x0003#16 src

end Sys2Proof
end

