-- ==== Sys2Proof/Machine/Presence.lean ====
section
/-! DEFINITION. Which instructions the configuration has (spec 30_encoding.md R113), and which synchronize the pipeline
(20_memory.md R75). -/

namespace Sys2Proof.Machine

/-- `ISA_A+` and `ISA_C`. -/
def isaPlusOrC (cfg : Config) : Bool := decide (cfg.isa = .aPlus) || decide (cfg.isa = .c)

/-- `ISA_B` and `ISA_C`. -/
def isaBOrC (cfg : Config) : Bool := decide (cfg.isa = .b) || decide (cfg.isa = .c)

/-- The 32-bit branch displacement is an `ISA_B` addition (R180). -/
def dispAssigned (cfg : Config) : Disp → Bool
  | .byte _ | .word _ => true
  | .long _ => isaBOrC cfg

/-- `#<xxx>` to `(d16,Ax)` of MOVE.B and MOVE.W is an `ISA_B` addition (R150). -/
def moveAssigned (cfg : Config) (src dst : Ea) : Bool :=
  match src, dst with
  | .imm _, .disp _ _ => isaBOrC cfg
  | _, _ => true

/-- Byte and word compares are an `ISA_B` addition (R113). -/
def compareAssigned (cfg : Config) : Size → Bool
  | .byte | .word => isaBOrC cfg
  | .long => true

/-- The configuration has the instruction (R113). MOVE to and from USP are always recognized: without the unit they raise
IllegalInstruction whatever `reserved_encoding_behaviour` says (R114, R323). -/
def assigned (cfg : Config) : Instr → Bool
  | .bitrev _ | .byterev _ | .ff1 _ | .stldsr _ => isaPlusOrC cfg
  | .bra d | .bsr d | .bcc _ d => dispAssigned cfg d
  | .cmpi sz _ _ | .cmp sz _ _ => compareAssigned cfg sz
  | .cmpaW _ _ | .mov3q _ _ | .mvs _ _ _ | .mvz _ _ _ | .sats _ | .tas _ | .intouch _ => isaBOrC cfg
  | .moveB src dst | .moveW src dst => moveAssigned cfg src dst
  | .divuL _ _ | .divsL _ _ | .remuL _ _ _ | .remsL _ _ _ | .divuW _ _ | .divsW _ _ => cfg.hasDiv
  | _ => true

/-- "cpushl, halt, intouch, move_to_sr, movec, nop, rte, stop, wdebug" (R75). -/
def synchronizes : Instr → Bool
  | .cpushl _ _ | .halt | .intouch _ | .moveToSr _ | .movec _ _ | .nop | .rte | .stop _ | .wdebug _ => true
  | _ => false

end Sys2Proof.Machine
end

