-- ==== Sys2Proof/Machine/Fetch.lean ====
section
/-! DEFINITION. Fetching and recognizing the instruction at the program counter (spec 60_exceptions.md R396 (1) to (4), R397;
30_encoding.md R114). -/

namespace Sys2Proof.Machine

/-- What the words at the program counter come to. -/
inductive Fetched where
  | instr (i : Instr)
  | raise (e : Exc)
  | refuse (r : Refusal)
  /-- Fault on fault: the first vector, the second vector (R397). -/
  | dead (first second : Byte)
deriving DecidableEq, Repr

/-- The opwords that are recognized with their second word: the static bit instructions, the long multiplies and divides,
STLDSR, and WDEBUG in its two modes (Ay) and (d16,Ay) (R112, R114, R115 (f)); every other line-F opword is judged alone
(R386). An opword of these groups that no second word makes legal (a mode the static form does not accept such as 0x0808, 0x4C08,
a long divide without the divide unit, 0x40E7 without STLDSR) still has its second word fetched first, so a fault of that fetch
comes before the effect of the unassigned opword (the model's choice, R112 (iii), R114, R384 and R396 (3) do not settle it:
log 50). -/
def needsSecondWord (w : Nat) : Bool :=
  w &&& 0xFF00 == 0x0800 || w &&& 0xFF80 == 0x4C00 || w == 0x40E7 || w &&& 0xFFF8 == 0xFBD0 || w &&& 0xFFF8 == 0xFBE8

/-- What an unassigned opword does (R109, R111, R114): line A and line F always trap with their unit absent, the other lines
follow `reserved_encoding_behaviour`. -/
def unassignedEffect (cfg : Config) (w : Nat) : Fetched :=
  if w / 4096 = 0xA then
    if cfg.hasMac || cfg.hasEmac || cfg.hasEmacB then .refuse .mac else .raise .lineA
  else if w / 4096 = 0xF then
    if w &&& 0xFE00 == 0xF200 && cfg.hasFpu then .refuse .fpu else .raise .lineF
  else
    match cfg.reserved with
    | .trap => .raise .illegalInstruction
    | .refuse => .refuse .unassigned

/-- The three words from an address on. -/
def State.words (s : State) (a : Long) : List Word := [s.word a, s.word (a + 2#32), s.word (a + 4#32)]

/-- The instruction the decoder reads at the program counter, if the configuration has it. -/
def recognized (s : State) : Option Instr :=
  match decode (s.words s.pc) with
  | .error _ => none
  | .ok (i, _) => if assigned s.cfg i then some i else none

/-- Recognizing the opword and, where the opcode has one, the second word (R114). -/
def recognize (s : State) : Fetched :=
  match recognized s with
  | some i => .instr i
  | none => unassignedEffect s.cfg (s.word s.pc).toNat

/-- A fault on the fetch of an opword: an ordinary exception, or fault on fault while the exception processing that led here
is not over (R397). -/
def opwordFault (s : State) (e : Exc) : Fetched :=
  match s.firstFetch with
  | some v => .dead v e.vector
  | none => .raise e

/-- The second word of an opcode that has one is fetched before the opcode is recognized (R396 (3)). -/
def fetchSecond (s : State) : Fetched :=
  if needsSecondWord (s.word s.pc).toNat then
    if s.refuses .fetch (s.pc + 2#32) 2 then .raise (.accessError 4#4)
    else if s.dirty (s.pc + 2#32) then .refuse .selfModified
    else recognize s
  else recognize s

/-- Fetching at the program counter, in the order of R396: odd address, opword, second word, recognition. -/
def fetchInstr (s : State) : Fetched :=
  if s.pc.getLsbD 0 then opwordFault s .addressError
  else if s.refuses .fetch s.pc 2 then opwordFault s (.accessError 4#4)
  else if s.dirty s.pc then .refuse .selfModified
  else fetchSecond s

end Sys2Proof.Machine
end

