-- ==== Sys2Proof/Machine/Cycle.lean ====
section
/-! DEFINITION. One step of the machine: interrupts, write faults and trace around an instruction (spec 60_exceptions.md R383,
R388, R390 to R393, R398). -/

namespace Sys2Proof.Machine

/-- What the platform presents at this boundary (R390). -/
def State.request (s : State) : Option Irq := (s.irq.head?).join

/-- The request is acceptable: its level exceeds the mask, or it is a new edge of level 7 (R390). Levels are 1 to 7. -/
def acceptable (s : State) (r : Irq) : Bool :=
  decide (s.mask.toNat < r.level.toNat) || (decide (r.level = 7#3) && !s.irq7)

/-- The boundary is past without sampling: the platform's value is consumed. -/
def State.passBoundary (s : State) : State := { s with irq := s.irq.tail }

/-- The request was sampled: whether a level-7 request was asserted is remembered for the edge (R390). -/
def State.sampled (s : State) : State :=
  { s with irq := s.irq.tail, irq7 := decide (s.request.map Irq.level = some 7#3) }

/-- `take_interrupt` (R391): the vector is the platform's (R392). -/
def takeInterrupt (r : Irq) (s : State) : State := enter r.vector s.pc 0#4 (some r.level) s

/-- The instruction at the program counter synchronizes the pipeline, so every write fault is reported before it (R383). -/
def nextSynchronizes (s : State) : Bool :=
  match recognized s with
  | some i => synchronizes i
  | none => false

/-- The environment's choice at this boundary: report a write fault (R383). -/
def State.reportsNow (s : State) : Bool := s.deliver.head?.getD true || nextSynchronizes s

/-- Trace (R388): the T bit at the start of the instruction counts; an instruction that raised an exception of its own, stopped
or halted is not traced. After an instruction that itself cleared T (MOVE to SR, RTE, STOP, STLDSR) the stacked SR is the copy of
R372, with T = 0, where R388 (c) has T = 1 (the model's choice: log 19). -/
def traceAfter (t : Bool) (s : State) : State :=
  if t && !s.inhibit && decide (s.run = .running) then enter 9#8 s.pc 0#4 none s else s

/-- The instruction at the program counter, and the trace exception after it, in the same step: where the instruction also left
an imprecise write fault pending, trace is taken first and the write fault at a later boundary (the model's choice, the spec
gives no order: log 48). -/
def runInstruction (s : State) : Host.Outcome State Fault Refusal :=
  let s1 := { s with inhibit := false }
  match fetchInstr s1 with
  | .dead first second => .next (s1.faultOnFault first second)
  | .refuse r => .refused r
  | .raise e =>
    let s2 := { s1 with firstFetch := none }
    .next (takeException s2 e s2)
  | .instr i =>
    match exec i { s1 with firstFetch := none } with
    | .next t => .next (traceAfter s.trace t)
    | .fault f => .fault f
    | .refused r => .refused r

/-- A boundary of a running core without a write fault to report: an acceptable interrupt, or the instruction (R391). -/
def runBoundary (s : State) : Host.Outcome State Fault Refusal :=
  if s.inhibit then runInstruction s.passBoundary
  else
    match s.request with
    | some r => if acceptable s r then .next (takeInterrupt r s.sampled) else runInstruction s.sampled
    | none => runInstruction s.sampled

/-- A boundary of a running core (R383, R391). A write fault reported here comes before an interrupt (log 48). One reported
right after an exception entry is an ordinary nested exception, not fault on fault (the model's choice, the spec does not say
whether that boundary belongs to the exception processing: log 49). -/
def runStep (s : State) : Host.Outcome State Fault Refusal :=
  match s.writeFaults with
  | [] => runBoundary s
  | fs :: rest =>
    if s.reportsNow then
      .next (enter 2#8 s.pc fs none { s.passBoundary with writeFaults := rest, deliver := s.deliver.tail })
    else runBoundary { s with deliver := s.deliver.tail }

/-- A boundary of a stopped core: only an acceptable interrupt ends the state (R398). -/
def stoppedStep (s : State) : State :=
  match s.request with
  | some r => if acceptable s r then takeInterrupt r s.sampled else s.sampled
  | none => s.sampled

/-- `step` of R391. A halted core does nothing (R398). -/
def cycle (s : State) : Host.Outcome State Fault Refusal :=
  match s.run with
  | .halted _ => .next s
  | .stopped => .next (stoppedStep s)
  | .running => runStep s

end Sys2Proof.Machine
end

