-- ==== Sys2Proof/Machine/Step.lean ====
section
/-! DEFINITION. The step function of the machine, and the placing of one instruction where the next step fetches. -/

namespace Sys2Proof.Machine

/-- One step (spec 60_exceptions.md R391). -/
def step (s : State) : Host.Outcome State Fault Refusal := cycle s

/-- The instruction words `w` (bits numbered as spec/opcode_table.json numbers them, zero above `nbits`) placed at the program
counter as the hardware stores them, by the host and not by the run; the core is running and nothing comes before the
instruction at this boundary. -/
def State.withFetchWord (s : State) (nbits w : Nat) : State :=
  match tableWords nbits w with
  | [w0, w1, w2] =>
    { s with
      mem :=
        storeOf
          (storeOf (storeOf s.mem s.pc .word (w0.setWidth 32)) (s.pc + 2#32) .word (w1.setWidth 32))
          (s.pc + 4#32) .word (w2.setWidth 32)
      run := .running
      unsynced := []
      writeFaults := []
      irq := match s.irq with
        | some r :: rest => none :: some r :: rest
        | rest => rest }
  | _ => s

end Sys2Proof.Machine
end

