-- ==== Sys2Proof/Machine/Reset.lean ====
section
/-! DEFINITION. The reset sequence over a memory image (spec 70_reset_and_hazards.md R430, R436): the host writes the image and the
state reset leaves unspecified, then the core resets. No step of the machine calls it (R437). -/

namespace Sys2Proof.Machine

/-- The registers reset writes before it reads the vectors (R430, R431). What R431 calls unspecified keeps the value the host
chose. The level-7 edge memory is cleared, so that a level-7 request asserted across reset is a new edge at the first sampling
(the model's choice, R390 judges the edge against a previous sampling and there is none: log 51). -/
def resetRegisters (s : State) : State :=
  { s with
    sr := 0x2700#16 ||| (s.sr &&& srMask s.cfg &&& 0x00FF#16)
    vbr := 0#32
    cacr := s.cacr &&& 0xFFFFFFEF#32
    run := .running
    inhibit := false
    firstFetch := some 0#8
    unsynced := []
    irq7 := false
    writeFaults := [] }

/-- `reset()` (R430): a refused vector halts the core as a fault during exception processing does (R397, D21). -/
def resetSequence (s : State) : State :=
  let s1 := resetRegisters s
  match s1.tryLoad 0#32 with
  | none => s1.faultOnFault 0#8 2#8
  | some a7 =>
    let s2 := s1.setSp a7
    match s2.tryLoad 4#32 with
    | none => s2.faultOnFault 0#8 2#8
    | some h => { s2 with pc := h }

end Sys2Proof.Machine
end

