-- ==== Sys2Proof/Safety.lean ====
section
/-! DEFINITION. The terms claims are stated in: the invariant of the machine, when an operand can be reached, what it is, and
what a write of it leaves. -/

namespace Sys2Proof.Machine

/-- The invariant every step keeps: memory is canonical; VBR[19:0] are zero (R34); the stored addresses are rising, 32 bits
wide; the unimplemented bits of SR are zero (R28). -/
structure State.Inv (s : State) : Prop where
  memory : Memory.wf s.mem = true
  vbrLow : vbrOf s.vbr = s.vbr
  stored : s.unsynced.Pairwise (fun a b => a < b)
  storedBound : ∀ a ∈ s.unsynced, a < 2 ^ 32
  srBits : s.sr &&& srMask s.cfg = s.sr

/-- `n` instruction words from word number `off` on can be fetched, and the run has not stored to them. -/
def extReady (off n : Nat) (s : State) : Bool :=
  (List.range n).all fun i =>
    !s.refuses .fetch (s.pc + 2#32 * BitVec.ofNat 32 (off + i)) 2 && !s.dirty (s.pc + 2#32 * BitVec.ofNat 32 (off + i))

/-- The effective address is a memory operand whose extension words can be fetched and raise no address error. -/
def eaReady (sz : Size) (off : Nat) (ea : Ea) (s : State) : Bool :=
  isMemory ea && extReady off (eaWords sz ea) s && !badExtension s.cfg ea

/-- The memory operand of an effective address lies where the platform allows accesses of the kind. -/
def eaAllows (kind : AccessKind) (sz : Size) (ea : Ea) (s : State) : Bool := !s.refuses kind (eaAddress sz ea s) sz.bytes

/-- The operand can be read. -/
def sourceReady (sz : Size) (off : Nat) (ea : Ea) (s : State) : Bool :=
  match ea with
  | .dreg _ => true
  | .areg _ => decide (sz ≠ .byte)
  | .imm _ => extReady off (eaWords sz ea) s
  | _ => eaReady sz off ea s && eaAllows .read sz ea s

/-- The operand read, zero-extended (R122 to R134). -/
def sourceValue (sz : Size) (ea : Ea) (s : State) : Long :=
  match ea with
  | .dreg n => sz.trunc (s.getD n)
  | .areg n => sz.trunc (s.getA n)
  | .imm v => sz.trunc v
  | _ => s.load (eaAddress sz ea s) sz

/-- The operand can be written. -/
def destReady (sz : Size) (off : Nat) (ea : Ea) (s : State) : Bool :=
  match ea with
  | .dreg _ | .areg _ => true
  | _ => eaReady sz off ea s && eaAllows .write sz ea s

/-- The operand can be read and written. -/
def modifyReady (sz : Size) (off : Nat) (ea : Ea) (s : State) : Bool :=
  match ea with
  | .dreg _ => true
  | _ => eaReady sz off ea s && eaAllows .read sz ea s && eaAllows .write sz ea s

/-- The state after the operand was written, with the update of its address register. -/
def written (sz : Size) (ea : Ea) (v : Long) (s : State) : State :=
  match ea with
  | .dreg n => s.setD n (sz.merge (s.getD n) v)
  | .areg n => s.setA n (sz.sext v)
  | _ => (eaUpdate sz ea s).store (eaAddress sz ea s) sz v

/-- A longword can be pushed on the active stack. -/
def pushReady (s : State) : Bool := !s.refuses .write (s.sp - 4#32) 4

/-- The state after a push: `SP <- SP - 4; MemWrite(SP, 4, v)` (R138). -/
def pushed (v : Long) (s : State) : State := (s.setSp (s.sp - 4#32)).store (s.sp - 4#32) .long v

/-- `pc <- pc0 + 2 * n`. -/
def State.advanced (n : Nat) (s : State) : State := { s with pc := s.pc + 2#32 * BitVec.ofNat 32 n }

/-- The boundary of a running core is past: the platform's value is consumed, and sampled unless sampling is inhibited (R391). -/
def State.pastBoundary (s : State) : State := if s.inhibit then s.passBoundary else s.sampled

/-- No interrupt is taken at this boundary: none is presented, or sampling is inhibited, or the request is not acceptable. -/
def State.noInterrupt (s : State) : Prop := ∀ r, s.request = some r → s.inhibit = true ∨ acceptable s r = false

/-- The opword can be fetched, and the run has not stored to it. -/
def State.opwordReady (s : State) : Prop :=
  s.pc.getLsbD 0 = false ∧ s.refuses .fetch s.pc 2 = false ∧ s.dirty s.pc = false

/-- The opword can be fetched, and so can the second word of an opcode that is recognized with it. -/
def State.opcodeReady (s : State) : Prop :=
  s.opwordReady ∧
  (needsSecondWord (s.word s.pc).toNat = true →
    s.refuses .fetch (s.pc + 2#32) 2 = false ∧ s.dirty (s.pc + 2#32) = false)

/-- The control registers. -/
def State.control (s : State) : List Long :=
  [s.vbr, s.cacr, s.asid.setWidth 32, s.acr0, s.acr1, s.acr2, s.acr3, s.mmubar, s.rombar0, s.rombar1, s.rambar0, s.rambar1,
    s.mbar]

/-- The stack pointer that is not the active A7 (R24); the user stack pointer where there is one A7. -/
def State.otherSp (s : State) : Long := if s.dualSp && !s.supervisor then s.ssp else s.usp

/-- MOVE of a size. -/
def moveInstr (sz : Size) (src dst : Ea) : Instr :=
  match sz with
  | .byte => .moveB src dst
  | .word => .moveW src dst
  | .long => .moveL src dst

/-- The privileged instructions (R320). -/
def isPrivileged : Instr → Bool
  | .halt | .moveFromSr _ | .moveFromUsp _ | .moveToSr _ | .moveToUsp _ | .movec _ _ | .rte | .stop _ | .stldsr _
  | .wdebug _ | .cpushl _ _ | .intouch _ => true
  | _ => false

/-- The address register an effective address updates (R125, R126). -/
def eaUpdates : Ea → List (Fin 8)
  | .postinc n | .predec n => [n]
  | _ => []

/-- The bytes a destination of size `sz` is stored to, its address evaluated in `s`; none for a register (R135). -/
def storedBytes (sz : Size) (ea : Ea) (s : State) : List Nat :=
  if isMemory ea then spanOf (eaAddress sz ea s) sz.bytes else []

/-- The bit formulas of R29: carry and overflow of an addition, from the top bits of source, destination and result. -/
def addBits (s d r : Bool) : Bool × Bool :=
  ((s && d) || (!r && (s || d)), (s && d && !r) || (!s && !d && r))

/-- The bit formulas of R29: borrow and overflow of a subtraction. -/
def subBits (s d r : Bool) : Bool × Bool :=
  ((s && !d) || (r && (s || !d)), (!s && d && !r) || (s && !d && r))

/-- What an instruction leaves unchanged: every data register outside `ds`, every address register outside `as`, the stack
pointer that is not active, every byte outside `bytes`, SR but its five flags, every control register, the environment's
inputs, the configuration and the run state. -/
structure Frame (ds as : List (Fin 8)) (bytes : List Nat) (s t : State) : Prop where
  data : ∀ n, n ∉ ds → t.getD n = s.getD n
  address : ∀ n, n ∉ as → t.getA n = s.getA n
  otherSp : t.otherSp = s.otherSp
  memory : ∀ a : Long, a.toNat ∉ bytes → t.byteAt a = s.byteAt a
  status : t.sr.extractLsb' 5 11 = s.sr.extractLsb' 5 11
  control : t.control = s.control
  inputs : t.irq = s.irq ∧ t.irq7 = s.irq7 ∧ t.deliver = s.deliver ∧ t.freeIdx = s.freeIdx
  config : t.cfg = s.cfg
  run : t.run = s.run

/-- The instruction took no exception: none of its own is being processed after it, and the core runs. -/
def State.quiet (s : State) : Prop := s.inhibit = false ∧ s.run = .running

/-- The instructions that write one data register (and the flags) and store nothing: the register and the source operand. -/
def dataForm : Instr → Option (Fin 8 × Ea)
  | .oriL v dx | .andiL v dx | .subiL v dx | .addiL v dx | .eoriL v dx => some (dx, .imm v)
  | .bitrev dx | .byterev dx | .ff1 dx | .negx dx | .neg dx | .not dx | .swap dx | .extW dx | .extL dx | .extbL dx
  | .sats dx | .moveFromCcr dx | .moveFromSr dx => some (dx, .dreg dx)
  | .scc _ dx | .asl _ dx | .asr _ dx | .lsl _ dx | .lsr _ dx | .moveq _ dx => some (dx, .dreg dx)
  | .subx dy dx | .addx dy dx => some (dx, .dreg dy)
  | .muluL src dx | .mulsL src dx | .divuL src dx | .divsL src dx => some (dx, src)
  | .remuL src dw _ | .remsL src dw _ => some (dw, src)
  | .mvs _ src dx | .mvz _ src dx | .orEaDn src dx | .divuW src dx | .divsW src dx | .subEaDn src dx | .andEaDn src dx
  | .muluW src dx | .mulsW src dx | .addEaDn src dx => some (dx, src)
  | _ => none

/-- The instructions that write the flags only and store nothing: the source operand. -/
def flagForm : Instr → Option Ea
  | .btstImm _ ea | .btstReg _ ea => some ea
  | .cmpi _ v _ => some (.imm v)
  | .tst _ src | .cmp _ src _ | .cmpaW src _ | .cmpaL src _ | .moveToCcr src | .wddata _ src => some src
  | _ => none

/-- The instructions that write one address register and neither flags nor memory: the register and the source operand. -/
def addressForm : Instr → Option (Fin 8 × Ea)
  | .moveaW src ax | .moveaL src ax | .lea src ax | .suba src ax | .adda src ax => some (ax, src)
  | .moveFromUsp ax => some (ax, .areg ax)
  | _ => none

/-- The instructions that write one operand of an effective address: size, destination, and the source whose update of an
address register comes first. -/
def storeForm : Instr → Option (Size × Ea × Ea)
  | .moveB src dst => some (.byte, dst, src)
  | .moveW src dst => some (.word, dst, src)
  | .moveL src dst => some (.long, dst, src)
  | .clr sz ea => some (sz, ea, .dreg 0)
  | .tas ea | .bchgImm _ ea | .bclrImm _ ea | .bsetImm _ ea | .bchgReg _ ea | .bclrReg _ ea | .bsetReg _ ea =>
    some (.byte, ea, .dreg 0)
  | .addq _ ea | .subq _ ea | .mov3q _ ea => some (.long, ea, .dreg 0)
  | .orDnEa dy dst | .subDnEa dy dst | .eor dy dst | .andDnEa dy dst | .addDnEa dy dst => some (.long, dst, .dreg dy)
  | _ => none

/-- The data register a register destination names. -/
def destD : Ea → List (Fin 8)
  | .dreg n => [n]
  | _ => []

/-- The address register a register destination names. -/
def destA : Ea → List (Fin 8)
  | .areg n => [n]
  | _ => []

/-- The instructions that change the program counter alone (and what synchronizing does). -/
def flowForm : Instr → Bool
  | .bra _ | .bcc _ _ | .jmp _ | .nop | .tpf | .tpfW _ | .tpfL _ _ | .pulse | .cpushl _ _ | .intouch _ => true
  | _ => false

/-- The instructions that push a longword: the address registers they change. -/
def pushForm : Instr → Option (List (Fin 8))
  | .pea _ | .jsr _ | .bsr _ => some [7]
  | .link ay _ => some [ay, 7]
  | _ => none

/-- The instruction pushes a longword in this state: all that comes before its push succeeds. -/
def pushes : Instr → State → Bool
  | .pea ea, s | .jsr ea, s => ea.control && eaReady .long 1 ea s
  | .bsr d, s => extReady 1 (dispWords d) s
  | .link ay _, s => decide (ay ≠ 7) && extReady 1 1 s
  | .stldsr imm, s => s.supervisor && extReady 1 2 s && !badSrImage s.cfg imm
  | _, _ => false

/-- The instructions that read an operand of an effective address and write it back: size, the number of the operand's first
extension word, operand. -/
def modifyForm : Instr → Option (Size × Nat × Ea)
  | .orDnEa _ ea | .subDnEa _ ea | .eor _ ea | .andDnEa _ ea | .addDnEa _ ea | .addq _ ea | .subq _ ea => some (.long, 1, ea)
  | .bchgReg _ ea | .bclrReg _ ea | .bsetReg _ ea | .tas ea => some (.byte, 1, ea)
  | .bchgImm _ ea | .bclrImm _ ea | .bsetImm _ ea => some (.byte, 2, ea)
  | _ => none

/-- The first effective address of an instruction, in the order of evaluation (R136): how many words of the instruction's own come
before its extension words, its size, and itself. -/
def leadingEa : Instr → Option (Nat × Size × Ea)
  | .btstImm _ ea | .bchgImm _ ea | .bclrImm _ ea | .bsetImm _ ea => some (1, .byte, ea)
  | .btstReg _ ea | .bchgReg _ ea | .bclrReg _ ea | .bsetReg _ ea | .tas ea => some (0, .byte, ea)
  | .moveB src _ | .moveToCcr src => some (0, .byte, src)
  | .moveW src _ | .moveaW src _ | .moveToSr src | .divuW src _ | .divsW src _ | .muluW src _ | .mulsW src _
  | .cmpaW src _ => some (0, .word, src)
  | .moveL src _ | .moveaL src _ | .lea src _ | .pea src | .jsr src | .jmp src | .orEaDn src _ | .subEaDn src _
  | .suba src _ | .cmpaL src _ | .andEaDn src _ | .addEaDn src _ | .adda src _ => some (0, .long, src)
  | .addq _ dst | .subq _ dst | .orDnEa _ dst | .subDnEa _ dst | .eor _ dst | .andDnEa _ dst | .addDnEa _ dst
  | .mov3q _ dst => some (0, .long, dst)
  | .clr sz ea | .tst sz ea | .mvs sz ea _ | .mvz sz ea _ | .cmp sz ea _ | .wddata sz ea => some (0, sz, ea)
  | .movemStore _ ea | .movemLoad _ ea => some (1, .long, ea)
  | .muluL src _ | .mulsL src _ | .divuL src _ | .divsL src _ | .remuL src _ _ | .remsL src _ _ => some (1, .long, src)
  | _ => none

/-- The number of words after the opword that an instruction fetches before it reads or changes anything: its own words and the
extension words of its first effective address (R93, R135). -/
def leadingWords (i : Instr) : Nat :=
  match leadingEa i with
  | some (own, sz, ea) => eaWords sz ea + own
  | none =>
    match i with
    | .oriL _ _ | .andiL _ _ | .subiL _ _ | .addiL _ _ | .eoriL _ _ | .stldsr _ | .tpfL _ _ => 2
    | .cmpi sz v _ => eaWords sz (.imm v)
    | .link _ _ | .stop _ | .movec _ _ | .tpfW _ => 1
    | .bra d | .bsr d | .bcc _ d => dispWords d
    | _ => 0

end Sys2Proof.Machine
end

