-- ==== Sys2Proof/Certificates/Slice0/Obligations.lean ====
section
/-! DEFINITION. The statements for the provers. `R<n>` are rules of spec/; the docstrings name what is the model's choice. -/

open Sys2Proof Sys2Proof.Machine

/-! Encoding. -/

/-- Decoding the encoding of any well-formed instruction gives it back and leaves the words after it (R90 to R112). -/
def Obligations.DecodeEncodeAgree : Prop :=
  ∀ (i : Instr) (rest : List Word), i.wf = true → decode (encode i ++ rest) = .ok (i, rest)

/-- Words written out from the encoding tables R101 to R111 decode to the instructions they stand for. The words of HALT and TPF.W
are general knowledge in the spec (log 32); that 0x1008, MOVE.B A0,D0, is unassigned is the model's choice (R123 marks it as
decision D14: log 11). -/
def Obligations.DecodeSanity : Prop :=
  decode [0x2001#16] = .ok (.moveL (.dreg 1) (.dreg 0), []) ∧
  decode [0x4EB9#16, 0x0001#16, 0x2344#16] = .ok (.jsr (.absL 0x00012344#32), []) ∧
  decode [0x4C41#16, 0x0802#16] = .ok (.remsL (.dreg 1) 2 0, []) ∧
  decode [0x4AC8#16] = .ok (.halt, []) ∧
  decode [0x51FA#16, 0x7401#16] = .ok (.tpfW 0x7401#16, []) ∧
  decode [0x1008#16] = .error .unassigned

/-- R94: the number of extension words of each mode. -/
def Obligations.ExtensionWordCounts : Prop :=
  ∀ (sz : Size) (n : Fin 8) (w : Word) (l : Long),
    ((Ea.dreg n).ext sz).length = 0 ∧ ((Ea.areg n).ext sz).length = 0 ∧ ((Ea.ind n).ext sz).length = 0 ∧
    ((Ea.postinc n).ext sz).length = 0 ∧ ((Ea.predec n).ext sz).length = 0 ∧
    ((Ea.disp n w).ext sz).length = 1 ∧ ((Ea.index n w).ext sz).length = 1 ∧ ((Ea.pcDisp w).ext sz).length = 1 ∧
    ((Ea.pcIndex w).ext sz).length = 1 ∧ ((Ea.absW w).ext sz).length = 1 ∧ ((Ea.absL l).ext sz).length = 2 ∧
    ((Ea.imm l).ext sz).length = (if sz = .long then 2 else 1) ∧
    (∀ ea : Ea, eaWords sz ea = (ea.ext sz).length)

/-! The step, the invariant and reset. -/

/-- The invariant of the machine is kept by every step: memory stays canonical, VBR[19:0] stay zero (R34), the unimplemented
bits of SR stay zero (R28), the record of stored addresses stays rising. -/
def Obligations.StepKeepsInvariant : Prop :=
  ∀ s t : State, s.Inv → step s = .next t → t.Inv

/-- The invariant holds after reset. -/
def Obligations.ResetHoldsInvariant : Prop := State.reset.Inv

/-- After reset (R430, R431): the upper byte of SR is 0x27, CACR[EUSP] is 0, A7 and PC are the longwords at addresses 0 and 4,
the core runs, sampling is not inhibited, no write fault is pending. The model's choices: VBR 0 (log 7), and that no level-7
request counts as asserted before the first sampling (log 51). -/
def Obligations.ResetState : Prop :=
  State.reset.sr.extractLsb' 8 8 = 0x27#8 ∧ eusp State.reset.cacr = false ∧
  State.reset.sp = State.reset.load 0#32 .long ∧ State.reset.pc = State.reset.load 4#32 .long ∧
  State.reset.run = .running ∧ State.reset.inhibit = false ∧ State.reset.irq7 = false ∧ State.reset.writeFaults = [] ∧
  State.reset.vbr = 0#32

/-- The reset sequence over any memory image (R430): with both vectors readable it loads SR, VBR, CACR[EUSP], A7 and PC; a refused
vector halts the core. In every case each register that R431 leaves unspecified keeps what the host chose: D0 to D7, A0 to A6, the
user stack pointer, ASID, ACR0 to ACR3, MMUBAR, ROMBAR0/1, RAMBAR0/1, MBAR, the bits of CACR but EUSP, the condition codes; and so
does memory. The model's choices: VBR 0 and the vectors at addresses 0 and 4 (general knowledge: log 7), the halt (decision D21:
log 18), and that what is unspecified is the host's choice (log 22). -/
def Obligations.ResetSequence : Prop :=
  ∀ s : State,
    ((resetRegisters s).refuses .read 0#32 4 = false → (resetRegisters s).refuses .read 4#32 4 = false →
      (resetSequence s).sr.extractLsb' 8 8 = 0x27#8 ∧ (resetSequence s).vbr = 0#32 ∧ eusp (resetSequence s).cacr = false ∧
      (resetSequence s).sp = s.load 0#32 .long ∧ (resetSequence s).pc = s.load 4#32 .long ∧
      (resetSequence s).run = .running ∧ (resetSequence s).inhibit = false) ∧
    ((resetRegisters s).refuses .read 0#32 4 = true → (resetSequence s).run = .halted (.faultOnFault 0#8 2#8)) ∧
    ((resetRegisters s).refuses .read 0#32 4 = false → (resetRegisters s).refuses .read 4#32 4 = true →
      (resetSequence s).run = .halted (.faultOnFault 0#8 2#8) ∧ (resetSequence s).sp = s.load 0#32 .long) ∧
    (resetSequence s).d = s.d ∧ (resetSequence s).a = s.a ∧ (resetSequence s).usp = s.usp ∧
    (resetSequence s).cacr = s.cacr &&& 0xFFFFFFEF#32 ∧ (resetSequence s).asid = s.asid ∧
    (resetSequence s).acr0 = s.acr0 ∧ (resetSequence s).acr1 = s.acr1 ∧ (resetSequence s).acr2 = s.acr2 ∧
    (resetSequence s).acr3 = s.acr3 ∧ (resetSequence s).mmubar = s.mmubar ∧ (resetSequence s).rombar0 = s.rombar0 ∧
    (resetSequence s).rombar1 = s.rombar1 ∧ (resetSequence s).rambar0 = s.rambar0 ∧
    (resetSequence s).rambar1 = s.rambar1 ∧ (resetSequence s).mbar = s.mbar ∧ (resetSequence s).flags = s.flags ∧
    (resetSequence s).mem = s.mem ∧ (resetSequence s).cfg = s.cfg

/-- A step runs the decoded instruction: at a boundary of a running core with no write fault to report and no interrupt to
take, with the opword (and the second word of an opcode that has one) fetchable and not stored by the run, the step is `exec`
of the instruction decoded at the pc, followed by trace. The boundary's interrupt value is consumed (log 21), inhibition and the
open exception processing (the model's own field: log 18) end. -/
def Obligations.StepRunsDecodedInstruction : Prop :=
  ∀ (s : State) (i : Instr) (rest : List Word),
    s.run = .running → s.writeFaults = [] →
    (∀ r, s.request = some r → s.inhibit = true ∨ acceptable s r = false) →
    s.pc.getLsbD 0 = false → s.refuses .fetch s.pc 2 = false → s.dirty s.pc = false →
    (needsSecondWord (s.word s.pc).toNat = true →
      s.refuses .fetch (s.pc + 2#32) 2 = false ∧ s.dirty (s.pc + 2#32) = false) →
    decode (s.words s.pc) = .ok (i, rest) → assigned s.cfg i = true →
    i.wf = true ∧
    step s =
      match exec i { (if s.inhibit then s.passBoundary else s.sampled) with inhibit := false, firstFetch := none } with
      | .next t => .next (traceAfter s.trace t)
      | .fault f => .fault f
      | .refused r => .refused r

/-- No step ends in a fault of the model, and the configuration never changes (R8). -/
def Obligations.StepNeverFaults : Prop :=
  ∀ s : State, (∀ f, step s ≠ .fault f) ∧ (∀ t, step s = .next t → t.cfg = s.cfg)

/-! Memory and flags. -/

/-- The mixed-width view of R63, which the spec derives from the big-endian order of R62 (decision D2: log 2): a stored longword read
by bytes and words, the byte MOVE.B stores, and a longword stored and a byte of it loaded. -/
def Obligations.MixedWidthView : Prop :=
  (∀ (s : State) (a : Long),
    (s.store a .long 0x11223344#32).load a .byte = 0x11#32 ∧
    (s.store a .long 0x11223344#32).load (a + 3#32) .byte = 0x44#32 ∧
    (s.store a .long 0x11223344#32).load a .word = 0x1122#32 ∧
    (s.store a .long 0x11223344#32).load (a + 2#32) .word = 0x3344#32) ∧
  (∀ s : State, s.refuses .write (s.getA 0) 1 = false →
    ∃ t, exec (.moveB (.dreg 0) (.ind 0)) s = .next t ∧ t.byteAt (s.getA 0) = (s.getD 0).extractLsb' 0 8 ∧
      ∀ b, b ≠ s.getA 0 → t.byteAt b = s.byteAt b) ∧
  (∀ s : State, s.refuses .write (s.getA 0) 4 = false → s.refuses .read (s.getA 0) 1 = false →
    ∃ t u, exec (.moveL (.dreg 0) (.ind 0)) s = .next t ∧ exec (.moveB (.ind 0) (.dreg 1)) t = .next u ∧
      (u.getD 1).extractLsb' 0 8 = (s.getD 0).extractLsb' 24 8)

/-- R29: the bit formulas of carry and overflow, for every width and with X included, agree with the definitions as sums of
numbers. The add-style, sub-style and cmp-style flags of R211 field by field: N and Z describe the W-bit result, C is the carry
or borrow, V a result outside the signed range, X is C, but for a compare X is kept. -/
def Obligations.FlagBitFormulas : Prop :=
  (∀ (sz : Size) (d s : Long),
    let add := Flags.add sz d s
    let sub := Flags.sub sz d s
    let outside (n : Int) : Prop := n < -(2 ^ (sz.bits - 1)) ∨ 2 ^ (sz.bits - 1) - 1 < n
    add.n = sz.msb (d + s) ∧ (add.z = true ↔ (sz.u d + sz.u s) % 2 ^ sz.bits = 0) ∧ (add.v = true ↔ outside (sz.i d + sz.i s)) ∧
    (add.c = true ↔ 2 ^ sz.bits ≤ sz.u d + sz.u s) ∧ add.x = add.c ∧
    sub.n = sz.msb (d - s) ∧ (sub.z = true ↔ sz.u d = sz.u s) ∧ (sub.v = true ↔ outside (sz.i d - sz.i s)) ∧
    (sub.c = true ↔ sz.u d < sz.u s) ∧ sub.x = sub.c ∧
    (∀ f : Flags, Flags.cmp sz d s f = { sub with x := f.x })) ∧
  ∀ (sz : Size) (d s : Long) (x : Bool),
    (addCarry sz d s x, addOverflow sz d s x) = addBits (sz.msb s) (sz.msb d) (sz.msb (addResult sz d s x)) ∧
    (subBorrow sz d s x, subOverflow sz d s x) = subBits (sz.msb s) (sz.msb d) (sz.msb (subResult sz d s x))

/-- The codes of the conditions in Scc and Bcc (in Bcc 0000 is BRA and 0001 is BSR) and their tests, X taking no part (R181); after
a compare of `d` with `s` HI, LS, CC, CS compare them as unsigned numbers, GE, LT, GT, LE as signed numbers (the spec's own
inference: R181 marks that sentence as derived from R181 and R29). -/
def Obligations.ConditionCodes : Prop :=
  (let codes : List Cond := [.t, .f, .hi, .ls, .cc, .cs, .ne, .eq, .vc, .vs, .pl, .mi, .ge, .lt, .gt, .le];
    (∀ (n : Nat) (c : Cond), codes[n]? = some c → ∀ dx : Fin 8,
      decode [BitVec.ofNat 16 (0x50C0 + 256 * n + dx.val)] = .ok (.scc c dx, [])) ∧
    (∀ (n : Nat) (c : Cond), codes[n]? = some c → 2 ≤ n →
      decode [BitVec.ofNat 16 (0x6002 + 256 * n)] = .ok (.bcc c (.byte 2#8), [])) ∧
    decode [0x6002#16] = .ok (.bra (.byte 2#8), []) ∧ decode [0x6102#16] = .ok (.bsr (.byte 2#8), [])) ∧
  (∀ f : Flags, condHolds .t f = true ∧ condHolds .f f = false ∧
    (condHolds .hi f = true ↔ f.c = false ∧ f.z = false) ∧ (condHolds .ls f = true ↔ f.c = true ∨ f.z = true) ∧
    (condHolds .cc f = true ↔ f.c = false) ∧ (condHolds .cs f = true ↔ f.c = true) ∧
    (condHolds .ne f = true ↔ f.z = false) ∧ (condHolds .eq f = true ↔ f.z = true) ∧
    (condHolds .vc f = true ↔ f.v = false) ∧ (condHolds .vs f = true ↔ f.v = true) ∧
    (condHolds .pl f = true ↔ f.n = false) ∧ (condHolds .mi f = true ↔ f.n = true) ∧
    (condHolds .ge f = true ↔ f.n = f.v) ∧ (condHolds .lt f = true ↔ f.n ≠ f.v) ∧
    (condHolds .gt f = true ↔ f.z = false ∧ f.n = f.v) ∧ (condHolds .le f = true ↔ f.z = true ∨ f.n ≠ f.v) ∧
    (∀ (c : Cond) (x : Bool), condHolds c { f with x := x } = condHolds c f)) ∧
  (∀ (sz : Size) (d s : Long) (f : Flags),
    condHolds .hi (Flags.cmp sz d s f) = decide (sz.u s < sz.u d) ∧
    condHolds .ls (Flags.cmp sz d s f) = decide (sz.u d ≤ sz.u s) ∧
    condHolds .cc (Flags.cmp sz d s f) = decide (sz.u s ≤ sz.u d) ∧
    condHolds .cs (Flags.cmp sz d s f) = decide (sz.u d < sz.u s) ∧
    condHolds .ge (Flags.cmp sz d s f) = decide (sz.i s ≤ sz.i d) ∧
    condHolds .lt (Flags.cmp sz d s f) = decide (sz.i d < sz.i s) ∧
    condHolds .gt (Flags.cmp sz d s f) = decide (sz.i s < sz.i d) ∧
    condHolds .le (Flags.cmp sz d s f) = decide (sz.i d ≤ sz.i s))

/-! Data movement. -/

/-- MOVE.B, MOVE.W, MOVE.L (R150): with the source readable and the destination writable after the source's update of an
address register, the value is written, N and Z describe it, V and C are cleared, X is kept. The destination is evaluated in
the state after the source's update (decision D16 of R136, the model's choice: log 13). -/
def Obligations.MoveCompletes : Prop :=
  ∀ (sz : Size) (src dst : Ea) (s : State),
    dst.dataAlterable = true → sourceReady sz 1 src s = true →
    destReady sz (1 + eaWords sz src) dst (eaUpdate sz src s) = true →
    exec (moveInstr sz src dst) s =
      .next (((written sz dst (sourceValue sz src s) (eaUpdate sz src s)).setFlags
        ⟨s.flags.x, sz.msb (sourceValue sz src s), decide (sz.trunc (sourceValue sz src s) = 0#32), false, false⟩).advanced
          (1 + eaWords sz src + eaWords sz dst))

/-- MOVEA.W, MOVEA.L, ADDA.L, SUBA.L, LEA.L (R152, R158, R212, R244): the address register is written whole, a word
sign-extended; the destination is read after the source's update of it (log 13); the flags are kept. -/
def Obligations.AddressRegisterResults : Prop :=
  ∀ (src : Ea) (ax : Fin 8) (s : State),
    (sourceReady .word 1 src s = true → exec (.moveaW src ax) s =
      .next (((eaUpdate .word src s).setA ax (Size.word.sext (sourceValue .word src s))).advanced (1 + eaWords .word src))) ∧
    (sourceReady .long 1 src s = true → exec (.moveaL src ax) s =
      .next (((eaUpdate .long src s).setA ax (sourceValue .long src s)).advanced (1 + eaWords .long src))) ∧
    (sourceReady .long 1 src s = true → exec (.adda src ax) s =
      .next (((eaUpdate .long src s).setA ax ((eaUpdate .long src s).getA ax + sourceValue .long src s)).advanced
        (1 + eaWords .long src))) ∧
    (sourceReady .long 1 src s = true → exec (.suba src ax) s =
      .next (((eaUpdate .long src s).setA ax ((eaUpdate .long src s).getA ax - sourceValue .long src s)).advanced
        (1 + eaWords .long src))) ∧
    (src.control = true → eaReady .long 1 src s = true → exec (.lea src ax) s =
      .next ((s.setA ax (eaAddress .long src s)).advanced (1 + eaWords .long src)))

/-- MVS and MVZ (R154, R164): the byte or word is sign-extended or zero-filled to all 32 bits; N is the sign for MVS and
cleared for MVZ. -/
def Obligations.ExtendingMoves : Prop :=
  ∀ (sz : Size) (src : Ea) (dx : Fin 8) (s : State), sz ≠ .long → sourceReady sz 1 src s = true →
    (∃ r, exec (.mvs sz src dx) s =
        .next ((((eaUpdate sz src s).setD dx r).setFlags
          ⟨s.flags.x, r.getLsbD 31, decide (r = 0#32), false, false⟩).advanced (1 + eaWords sz src)) ∧
      r.toInt = sz.i (sourceValue sz src s)) ∧
    (∃ r, exec (.mvz sz src dx) s =
        .next ((((eaUpdate sz src s).setD dx r).setFlags
          ⟨s.flags.x, false, decide (r = 0#32), false, false⟩).advanced (1 + eaWords sz src)) ∧
      r.toNat = sz.u (sourceValue sz src s))

/-- CLR and MOV3Q (R155, R218): zero, or -1 to 7 without 0, is written to the destination; the destination is not read. MOV3Q
writes the flags for an address register too (the spec's own inference: R155 marks it as derived from the page's condition code
table). -/
def Obligations.ClearAndQuickMove : Prop :=
  (∀ (sz : Size) (ea : Ea) (s : State), ea.dataAlterable = true → destReady sz 1 ea s = true →
    exec (.clr sz ea) s =
      .next (((written sz ea 0#32 s).setFlags ⟨s.flags.x, false, true, false, false⟩).advanced (1 + eaWords sz ea))) ∧
  (∀ (q : Fin 8) (ea : Ea) (s : State), ea.alterable = true → destReady .long 1 ea s = true →
    exec (.mov3q q ea) s =
      .next (((written .long ea (if q = 0 then 0xFFFFFFFF#32 else BitVec.ofNat 32 q.val) s).setFlags
        ⟨s.flags.x, decide (q = 0), false, false, false⟩).advanced (1 + eaWords .long ea)))

/-- MOVEM (R156, R157): the k-th selected register of D0 to D7, A0 to A7 goes to or comes from the address plus 4k; other
registers, the flags and other bytes are kept. That the base of a load is computed once is the spec's choice, marked general
knowledge in R157: "the address sequence is fixed before any register is loaded" (log 13). -/
def Obligations.MovemTransfers : Prop :=
  ∀ (mask : Word) (ea : Ea) (s : State), ea.block = true → extReady 1 1 s = true → eaReady .long 2 ea s = true →
    ((∀ k, k < (maskRegs mask).length →
        s.refuses .write (eaAddress .long ea s + BitVec.ofNat 32 (4 * k)) 4 = false) →
      ∃ t, exec (.movemStore mask ea) s = .next t ∧
        (∀ k r, (maskRegs mask)[k]? = some r →
          t.load (eaAddress .long ea s + BitVec.ofNat 32 (4 * k)) .long = s.getR r) ∧
        Frame [] [] (spanOf (eaAddress .long ea s) (4 * (maskRegs mask).length)) s t ∧ t.flags = s.flags ∧
        t.pc = s.pc + 2#32 * BitVec.ofNat 32 (2 + eaWords .long ea)) ∧
    ((∀ k, k < (maskRegs mask).length →
        s.refuses .read (eaAddress .long ea s + BitVec.ofNat 32 (4 * k)) 4 = false) →
      ∃ t, exec (.movemLoad mask ea) s = .next t ∧
        (∀ k r, (maskRegs mask)[k]? = some r →
          t.getR r = s.load (eaAddress .long ea s + BitVec.ofNat 32 (4 * k)) .long) ∧
        (∀ r : Fin 16, mask.getLsbD r.val = false → t.getR r = s.getR r) ∧
        t.mem = s.mem ∧ t.sr = s.sr ∧ t.control = s.control ∧ t.otherSp = s.otherSp ∧
        t.pc = s.pc + 2#32 * BitVec.ofNat 32 (2 + eaWords .long ea))

/-- MOVE from CCR, MOVE to CCR (R162, R163): bits 4 to 0 are X N Z V C; the register keeps its upper half; SR keeps its upper
byte. -/
def Obligations.CcrMoves : Prop :=
  (∀ (dx : Fin 8) (s : State), s.sr &&& srMask s.cfg = s.sr →
    ∃ r, exec (.moveFromCcr dx) s = .next ((s.setD dx r).advanced 1) ∧
      r.extractLsb' 0 16 = s.sr &&& 0x00FF#16 ∧ r.extractLsb' 16 16 = (s.getD dx).extractLsb' 16 16) ∧
  (∀ (src : Ea) (s : State), src.dregOrImm .byte = true → sourceReady .byte 1 src s = true →
    ∃ sr' : Word, exec (.moveToCcr src) s = .next (({ s with sr := sr' } : State).advanced (1 + eaWords .byte src)) ∧
      Flags.ofWord sr' = Flags.ofWord ((sourceValue .byte src s).setWidth 16) ∧
      sr'.extractLsb' 8 8 = s.sr.extractLsb' 8 8 ∧ sr'.extractLsb' 5 2 = 0#2 ∧
      sr'.getLsbD 7 = (decide (s.cfg.core = .v3) && (sourceValue .byte src s).getLsbD 7))

/-! Registers. -/

/-- MOVEQ, NOT, SWAP, EXT.W, EXT.L, EXTB.L, SATS, NEG, NEGX (R153, R266, R285, R227, R228, R229, R240, R235, R236): the
register, and the flags as the pages print them. That EXT.W takes N and Z from the 16-bit word and SWAP from all 32 bits is the
spec's own inference (R227 and R285 mark it as derived). -/
def Obligations.RegisterResults : Prop :=
  ∀ (dx : Fin 8) (s : State),
    (∀ d8 : Byte, exec (.moveq d8 dx) s =
      .next (((s.setD dx (d8.signExtend 32)).setFlags ⟨s.flags.x, d8.getLsbD 7, decide (d8 = 0#8), false, false⟩).advanced
        1)) ∧
    exec (.not dx) s =
      .next (((s.setD dx (~~~s.getD dx)).setFlags
        ⟨s.flags.x, !(s.getD dx).getLsbD 31, decide (s.getD dx = 0xFFFFFFFF#32), false, false⟩).advanced 1) ∧
    exec (.swap dx) s =
      .next (((s.setD dx ((s.getD dx).rotateLeft 16)).setFlags
        ⟨s.flags.x, (s.getD dx).getLsbD 15, decide (s.getD dx = 0#32), false, false⟩).advanced 1) ∧
    (∃ r, exec (.extW dx) s =
        .next (((s.setD dx r).setFlags
          ⟨s.flags.x, (s.getD dx).getLsbD 7, decide ((s.getD dx).extractLsb' 0 8 = 0#8), false, false⟩).advanced 1) ∧
      r.extractLsb' 16 16 = (s.getD dx).extractLsb' 16 16 ∧
      (r.extractLsb' 0 16).toInt = ((s.getD dx).extractLsb' 0 8).toInt) ∧
    (∃ r, exec (.extL dx) s =
        .next (((s.setD dx r).setFlags ⟨s.flags.x, r.getLsbD 31, decide (r = 0#32), false, false⟩).advanced 1) ∧
      r.toInt = ((s.getD dx).extractLsb' 0 16).toInt) ∧
    (∃ r, exec (.extbL dx) s =
        .next (((s.setD dx r).setFlags ⟨s.flags.x, r.getLsbD 31, decide (r = 0#32), false, false⟩).advanced 1) ∧
      r.toInt = ((s.getD dx).extractLsb' 0 8).toInt) ∧
    (∃ r, exec (.sats dx) s =
        .next (((s.setD dx r).setFlags ⟨s.flags.x, r.getLsbD 31, decide (r = 0#32), false, false⟩).advanced 1) ∧
      (s.flags.v = false → r = s.getD dx) ∧
      (s.flags.v = true → (s.getD dx).getLsbD 31 = false → r = 0x80000000#32) ∧
      (s.flags.v = true → (s.getD dx).getLsbD 31 = true → r = 0x7FFFFFFF#32)) ∧
    (∃ r, exec (.neg dx) s =
        .next (((s.setD dx r).setFlags ⟨decide (r ≠ 0#32), r.getLsbD 31, decide (r = 0#32),
          decide (s.getD dx = 0x80000000#32), decide (r ≠ 0#32)⟩).advanced 1) ∧ r = -s.getD dx) ∧
    (∃ r, exec (.negx dx) s =
        .next (((s.setD dx r).setFlags ⟨decide (s.getD dx ≠ 0#32) || s.flags.x, r.getLsbD 31,
          s.flags.z && decide (r = 0#32), decide (s.getD dx = 0x80000000#32) && !s.flags.x,
          decide (s.getD dx ≠ 0#32) || s.flags.x⟩).advanced 1) ∧
      r = -s.getD dx - (if s.flags.x then 1#32 else 0#32))

/-- ADDX and SUBX (R215, R245): X takes part; Z is cleared by a nonzero result and otherwise kept; X is C. -/
def Obligations.ExtendedArithmetic : Prop :=
  ∀ (dy dx : Fin 8) (s : State),
    (∃ r c v, exec (.addx dy dx) s =
        .next (((s.setD dx r).setFlags ⟨c, r.getLsbD 31, if r = 0#32 then s.flags.z else false, v, c⟩).advanced 1) ∧
      r = s.getD dx + s.getD dy + (if s.flags.x then 1#32 else 0#32) ∧
      (c = true ↔ 2 ^ 32 ≤ (s.getD dx).toNat + (s.getD dy).toNat + (if s.flags.x then 1 else 0)) ∧
      (v, c) = (addBits ((s.getD dy).getLsbD 31) ((s.getD dx).getLsbD 31) (r.getLsbD 31)).swap) ∧
    (∃ r c v, exec (.subx dy dx) s =
        .next (((s.setD dx r).setFlags ⟨c, r.getLsbD 31, if r = 0#32 then s.flags.z else false, v, c⟩).advanced 1) ∧
      r = s.getD dx - s.getD dy - (if s.flags.x then 1#32 else 0#32) ∧
      (c = true ↔ (s.getD dx).toNat < (s.getD dy).toNat + (if s.flags.x then 1 else 0)) ∧
      (v, c) = (subBits ((s.getD dy).getLsbD 31) ((s.getD dx).getLsbD 31) (r.getLsbD 31)).swap)

/-- R305: BITREV reverses the 32 bits, keeps the condition codes, raises nothing; its opword is 0x00C0 with the register in bits 2
to 0; ISA_A+ and ISA_C have it. -/
def Obligations.BitReverse : Prop :=
  (∀ (dx : Fin 8) (s : State), ∃ r, exec (.bitrev dx) s = .next ((s.setD dx r).advanced 1) ∧
    ∀ i, i < 32 → r.getLsbD i = (s.getD dx).getLsbD (31 - i)) ∧
  (∀ dx : Fin 8, decode [BitVec.ofNat 16 (0x00C0 + dx.val)] = .ok (.bitrev dx, [])) ∧
  (∀ (cfg : Config) (dx : Fin 8), assigned cfg (.bitrev dx) = true ↔ cfg.isa = .aPlus ∨ cfg.isa = .c) ∧
  (0x00000001#32).reverse = 0x80000000#32 ∧ (0x12345678#32).reverse = 0x1E6A2C48#32

/-- R306: BYTEREV reverses the four bytes, keeps the condition codes, raises nothing; its opword is 0x02C0 with the register in
bits 2 to 0; ISA_A+ and ISA_C have it. -/
def Obligations.ByteReverse : Prop :=
  (∀ (dx : Fin 8) (s : State), ∃ r, exec (.byterev dx) s = .next ((s.setD dx r).advanced 1) ∧
    r.extractLsb' 24 8 = (s.getD dx).extractLsb' 0 8 ∧ r.extractLsb' 16 8 = (s.getD dx).extractLsb' 8 8 ∧
    r.extractLsb' 8 8 = (s.getD dx).extractLsb' 16 8 ∧ r.extractLsb' 0 8 = (s.getD dx).extractLsb' 24 8) ∧
  (∀ dx : Fin 8, decode [BitVec.ofNat 16 (0x02C0 + dx.val)] = .ok (.byterev dx, [])) ∧
  (∀ (cfg : Config) (dx : Fin 8), assigned cfg (.byterev dx) = true ↔ cfg.isa = .aPlus ∨ cfg.isa = .c) ∧
  byteReverse 0x12345678#32 = 0x78563412#32

/-- R307: FF1 gives the offset from bit 31 of the first set bit, 32 for zero; N and Z describe the source, V and C are cleared,
X is kept; it raises nothing; its opword is 0x04C0 with the register in bits 2 to 0; ISA_A+ and ISA_C have it. -/
def Obligations.FindFirstOne : Prop :=
  (∀ (dx : Fin 8) (s : State), ∃ n : Nat, exec (.ff1 dx) s =
      .next (((s.setD dx (BitVec.ofNat 32 n)).setFlags
        ⟨s.flags.x, (s.getD dx).getLsbD 31, decide (s.getD dx = 0#32), false, false⟩).advanced 1) ∧
    (s.getD dx = 0#32 → n = 32) ∧
    (s.getD dx ≠ 0#32 → n < 32 ∧ (s.getD dx).getLsbD (31 - n) = true ∧
      ∀ j, 31 - n < j → j < 32 → (s.getD dx).getLsbD j = false)) ∧
  (∀ dx : Fin 8, decode [BitVec.ofNat 16 (0x04C0 + dx.val)] = .ok (.ff1 dx, [])) ∧
  (∀ (cfg : Config) (dx : Fin 8), assigned cfg (.ff1 dx) = true ↔ cfg.isa = .aPlus ∨ cfg.isa = .c)

/-- Scc (R190): the low byte is all ones or all zeros as the condition says, the upper bits and the flags are kept. -/
def Obligations.SetOnCondition : Prop :=
  ∀ (c : Cond) (dx : Fin 8) (s : State), ∃ r, exec (.scc c dx) s = .next ((s.setD dx r).advanced 1) ∧
    r.extractLsb' 0 8 = (if condHolds c s.flags then 0xFF#8 else 0x00#8) ∧
    r.extractLsb' 8 24 = (s.getD dx).extractLsb' 8 24

/-- ASL, LSL, LSR, ASR (R280 to R284): the closed forms. Counts 1 to 8 in the instruction, 0 to 63 from a register; C and X are
the last bit shifted out, for a count of zero C is cleared and X kept; V is cleared. -/
def Obligations.ShiftClosedForms : Prop :=
  ∀ (cnt : ShiftCount) (dx : Fin 8) (s : State),
    (∀ q : Fin 8, shiftCount (.imm q) s = if q = 0 then 8 else q.val) ∧
    (∀ dy : Fin 8, shiftCount (.reg dy) s = (s.getD dy).toNat % 64) ∧
    (let n := shiftCount cnt s
     let d := s.getD dx
     let left := decide (1 ≤ n ∧ n ≤ 32) && d.getLsbD (32 - n)
     let right := decide (1 ≤ n) && d.getLsbD (n - 1)
     let arith := decide (1 ≤ n) && (if n ≤ 32 then d.getLsbD (n - 1) else d.getLsbD 31)
     let result (r : Long) (last : Bool) : Host.Outcome State Fault Refusal :=
       .next (((s.setD dx r).setFlags
         ⟨if n = 0 then s.flags.x else last, r.getLsbD 31, decide (r = 0#32), false, last⟩).advanced 1)
     exec (.asl cnt dx) s = result (d <<< n) left ∧ exec (.lsl cnt dx) s = result (d <<< n) left ∧
     exec (.lsr cnt dx) s = result (d >>> n) right ∧ exec (.asr cnt dx) s = result (d.sshiftRight n) arith)

/-! Arithmetic and logic with operands. -/

/-- ADD, SUB, AND, OR with a source operand to a data register (R210, R241, R260, R263). -/
def Obligations.SourceToRegister : Prop :=
  ∀ (src : Ea) (dx : Fin 8) (s : State), sourceReady .long 1 src s = true →
    let d := s.getD dx
    let v := sourceValue .long src s
    let result (r : Long) (f : Flags) : Host.Outcome State Fault Refusal :=
      .next ((((eaUpdate .long src s).setD dx r).setFlags f).advanced (1 + eaWords .long src))
    exec (.addEaDn src dx) s = result (d + v) (Flags.add .long d v) ∧
    exec (.subEaDn src dx) s = result (d - v) (Flags.sub .long d v) ∧
    exec (.andEaDn src dx) s =
      result (d &&& v) ⟨s.flags.x, (d &&& v).getLsbD 31, decide (d &&& v = 0#32), false, false⟩ ∧
    exec (.orEaDn src dx) s = result (d ||| v) ⟨s.flags.x, (d ||| v).getLsbD 31, decide (d ||| v = 0#32), false, false⟩

/-- ADDI, SUBI, ANDI, ORI, EORI (R213, R242, R262, R265, R267). -/
def Obligations.ImmediateToRegister : Prop :=
  ∀ (v : Long) (dx : Fin 8) (s : State), extReady 1 2 s = true →
    let d := s.getD dx
    let result (r : Long) (f : Flags) : Host.Outcome State Fault Refusal :=
      .next (((s.setD dx r).setFlags f).advanced 3)
    exec (.addiL v dx) s = result (d + v) (Flags.add .long d v) ∧
    exec (.subiL v dx) s = result (d - v) (Flags.sub .long d v) ∧
    exec (.andiL v dx) s =
      result (d &&& v) ⟨s.flags.x, (d &&& v).getLsbD 31, decide (d &&& v = 0#32), false, false⟩ ∧
    exec (.oriL v dx) s = result (d ||| v) ⟨s.flags.x, (d ||| v).getLsbD 31, decide (d ||| v = 0#32), false, false⟩ ∧
    exec (.eoriL v dx) s =
      result (d ^^^ v) ⟨s.flags.x, (d ^^^ v).getLsbD 31, decide (d = v), false, false⟩

/-- ADD, SUB, AND, OR, EOR of a data register to a destination, ADDQ, SUBQ (R210, R241, R260, R263, R264, R214, R243): the
destination is read, then written; ADDQ and SUBQ of an address register keep the flags. -/
def Obligations.RegisterToDestination : Prop :=
  ∀ (dy q : Fin 8) (dst : Ea) (s : State),
    let d := sourceValue .long dst s
    let v := s.getD dy
    let k : Long := if q = 0 then 8#32 else BitVec.ofNat 32 q.val
    let result (r : Long) (f : Flags) : Host.Outcome State Fault Refusal :=
      .next (((written .long dst r s).setFlags f).advanced (1 + eaWords .long dst))
    let logic (r : Long) : Flags := ⟨s.flags.x, r.getLsbD 31, decide (r = 0#32), false, false⟩
    (modifyReady .long 1 dst s = true → dst.memoryAlterable = true →
      exec (.addDnEa dy dst) s = result (d + v) (Flags.add .long d v) ∧
      exec (.subDnEa dy dst) s = result (d - v) (Flags.sub .long d v) ∧
      exec (.andDnEa dy dst) s = result (d &&& v) (logic (d &&& v)) ∧
      exec (.orDnEa dy dst) s = result (d ||| v) (logic (d ||| v))) ∧
    (modifyReady .long 1 dst s = true → dst.dataAlterable = true →
      exec (.eor dy dst) s = result (d ^^^ v) (logic (d ^^^ v)) ∧
      exec (.addq q dst) s = result (d + k) (Flags.add .long d k) ∧
      exec (.subq q dst) s = result (d - k) (Flags.sub .long d k)) ∧
    (∀ ax : Fin 8,
      exec (.addq q (.areg ax)) s = .next ((s.setA ax (s.getA ax + k)).advanced 1) ∧
      exec (.subq q (.areg ax)) s = .next ((s.setA ax (s.getA ax - k)).advanced 1))

/-- CMP, CMPI, CMPA.W, CMPA.L, TST, WDDATA (R219, R222, R221, R191, R338): only the flags and the source's address register
change; X is kept; CMPA reads its register after the source's update (decision D16, the model's choice: log 13); WDDATA keeps
all flags (the model's reading: log 43). -/
def Obligations.CompareAndTest : Prop :=
  ∀ (sz : Size) (src : Ea) (x : Fin 8) (s : State),
    (sourceReady sz 1 src s = true →
      exec (.cmp sz src x) s =
        .next (((eaUpdate sz src s).setFlags
          { Flags.sub sz (s.getD x) (sourceValue sz src s) with x := s.flags.x }).advanced (1 + eaWords sz src)) ∧
      exec (.tst sz src) s =
        .next (((eaUpdate sz src s).setFlags ⟨s.flags.x, sz.msb (sourceValue sz src s),
          decide (sz.trunc (sourceValue sz src s) = 0#32), false, false⟩).advanced (1 + eaWords sz src)) ∧
      exec (.wddata sz src) s = .next ((eaUpdate sz src s).advanced (1 + eaWords sz src))) ∧
    (sourceReady .word 1 src s = true → exec (.cmpaW src x) s =
      .next (((eaUpdate .word src s).setFlags
        { Flags.sub .long ((eaUpdate .word src s).getA x) (Size.word.sext (sourceValue .word src s)) with
          x := s.flags.x }).advanced (1 + eaWords .word src))) ∧
    (sourceReady .long 1 src s = true → exec (.cmpaL src x) s =
      .next (((eaUpdate .long src s).setFlags
        { Flags.sub .long ((eaUpdate .long src s).getA x) (sourceValue .long src s) with x := s.flags.x }).advanced
          (1 + eaWords .long src))) ∧
    (∀ v : Long, extReady 1 (eaWords sz (.imm v)) s = true → exec (.cmpi sz v x) s =
      .next ((s.setFlags { Flags.sub sz (s.getD x) v with x := s.flags.x }).advanced (1 + eaWords sz (.imm v))))

/-- MULU.W, MULS.W, MULU.L, MULS.L (R230 to R233): the word product is exact, the longword product keeps its low 32 bits; N and
Z describe the register, V and C are cleared. -/
def Obligations.Multiply : Prop :=
  ∀ (src : Ea) (dx : Fin 8) (s : State),
    let result (sz : Size) (k : Nat) (r : Long) : Host.Outcome State Fault Refusal :=
      .next ((((eaUpdate sz src s).setD dx r).setFlags
        ⟨s.flags.x, r.getLsbD 31, decide (r = 0#32), false, false⟩).advanced k)
    (sourceReady .word 1 src s = true →
      (∃ r, exec (.muluW src dx) s = result .word (1 + eaWords .word src) r ∧
        r.toNat = Size.word.u (sourceValue .word src s) * Size.word.u (s.getD dx)) ∧
      (∃ r, exec (.mulsW src dx) s = result .word (1 + eaWords .word src) r ∧
        r.toInt = Size.word.i (sourceValue .word src s) * Size.word.i (s.getD dx))) ∧
    (extReady 1 1 s = true → sourceReady .long 2 src s = true →
      exec (.muluL src dx) s = result .long (2 + eaWords .long src) (sourceValue .long src s * s.getD dx) ∧
      exec (.mulsL src dx) s = result .long (2 + eaWords .long src) (sourceValue .long src s * s.getD dx))

/-- DIVU.W and DIVS.W with a nonzero divisor (R223, R225, R237): the register is divided with a remainder of the dividend's sign;
a quotient that fits 16 bits is stored below its remainder, one that does not leaves the register and sets V. -/
def Obligations.DivideWord : Prop :=
  ∀ (src : Ea) (dx : Fin 8) (s : State), sourceReady .word 1 src s = true →
    Size.word.u (sourceValue .word src s) ≠ 0 →
    let base := eaUpdate .word src s
    let k := 1 + eaWords .word src
    (∃ q r : Nat, (s.getD dx).toNat = q * Size.word.u (sourceValue .word src s) + r ∧
      r < Size.word.u (sourceValue .word src s) ∧
      (q < 2 ^ 16 → exec (.divuW src dx) s =
        .next (((base.setD dx (BitVec.ofNat 32 (r * 2 ^ 16 + q))).setFlags
          ⟨s.flags.x, decide (2 ^ 15 ≤ q), decide (q = 0), false, false⟩).advanced k)) ∧
      (2 ^ 16 ≤ q → exec (.divuW src dx) s =
        .next ((base.setFlags ⟨s.flags.x, false, false, true, false⟩).advanced k))) ∧
    (∃ q r : Int, (s.getD dx).toInt = q * Size.word.i (sourceValue .word src s) + r ∧
      r.natAbs < (Size.word.i (sourceValue .word src s)).natAbs ∧ 0 ≤ r * (s.getD dx).toInt ∧
      (-32768 ≤ q ∧ q ≤ 32767 → exec (.divsW src dx) s =
        .next (((base.setD dx (BitVec.ofInt 16 r ++ BitVec.ofInt 16 q)).setFlags
          ⟨s.flags.x, decide (q < 0), decide (q = 0), false, false⟩).advanced k)) ∧
      (q < -32768 ∨ 32767 < q → exec (.divsW src dx) s =
        .next ((base.setFlags ⟨s.flags.x, false, false, true, false⟩).advanced k)))

/-- DIVU.L, DIVS.L, REMU.L, REMS.L with a nonzero divisor (R224, R226, R237 to R239): quotient to Dx, or remainder to Dw; the
flags describe the quotient; only 0x80000000 by 0xFFFFFFFF overflows the signed forms and leaves the registers. -/
def Obligations.DivideLong : Prop :=
  ∀ (src : Ea) (dw dx : Fin 8) (s : State), extReady 1 1 s = true → sourceReady .long 2 src s = true →
    sourceValue .long src s ≠ 0#32 →
    let d := s.getD dx
    let v := sourceValue .long src s
    let result (n : Fin 8) (r : Long) (neg zero : Bool) : Host.Outcome State Fault Refusal :=
      .next ((((eaUpdate .long src s).setD n r).setFlags ⟨s.flags.x, neg, zero, false, false⟩).advanced
        (2 + eaWords .long src))
    (∃ q r : Nat, d.toNat = q * v.toNat + r ∧ r < v.toNat ∧
      exec (.divuL src dx) s = result dx (BitVec.ofNat 32 q) (decide (2 ^ 31 ≤ q)) (decide (q = 0)) ∧
      exec (.remuL src dw dx) s = result dw (BitVec.ofNat 32 r) (decide (2 ^ 31 ≤ q)) (decide (q = 0))) ∧
    (∃ q r : Int, d.toInt = q * v.toInt + r ∧ r.natAbs < v.toInt.natAbs ∧ 0 ≤ r * d.toInt ∧
      (¬(d = 0x80000000#32 ∧ v = 0xFFFFFFFF#32) →
        exec (.divsL src dx) s = result dx (BitVec.ofInt 32 q) (decide (q < 0)) (decide (q = 0)) ∧
        exec (.remsL src dw dx) s = result dw (BitVec.ofInt 32 r) (decide (q < 0)) (decide (q = 0))) ∧
      (d = 0x80000000#32 ∧ v = 0xFFFFFFFF#32 →
        exec (.divsL src dx) s =
          .next (((eaUpdate .long src s).setFlags ⟨s.flags.x, false, false, true, false⟩).advanced
            (2 + eaWords .long src)) ∧
        exec (.remsL src dw dx) s =
          .next (((eaUpdate .long src s).setFlags ⟨s.flags.x, false, false, true, false⟩).advanced
            (2 + eaWords .long src))))

/-- A zero divisor (R237 (b), R394): the exception with vector 5 and the stacked PC of the divide, entered from the state the
divide started in. -/
def Obligations.DivideByZero : Prop :=
  ∀ (src : Ea) (dw dx : Fin 8) (s : State),
    (sourceReady .word 1 src s = true → Size.word.u (sourceValue .word src s) = 0 →
      exec (.divuW src dx) s = .next (enter 5#8 s.pc 0#4 none s) ∧
      exec (.divsW src dx) s = .next (enter 5#8 s.pc 0#4 none s)) ∧
    (extReady 1 1 s = true → sourceReady .long 2 src s = true → sourceValue .long src s = 0#32 →
      exec (.divuL src dx) s = .next (enter 5#8 s.pc 0#4 none s) ∧
      exec (.divsL src dx) s = .next (enter 5#8 s.pc 0#4 none s) ∧
      exec (.remuL src dw dx) s = .next (enter 5#8 s.pc 0#4 none s) ∧
      exec (.remsL src dw dx) s = .next (enter 5#8 s.pc 0#4 none s))

/-- BCHG, BCLR, BSET, BTST, static and dynamic (R300 to R304): bit `b` (modulo 32 in a register, modulo 8 in memory) alone
changes, Z is its old complement, the other flags are kept. -/
def Obligations.BitOperations : Prop :=
  ∀ (bn : Byte) (dy : Fin 8) (ea : Ea) (s : State),
    let sz := bitSize ea
    let old := sourceValue sz ea s
    let bits (b : Nat) (new : Bool) (r : Long) : Prop := ∀ j, j < 32 → r.getLsbD j = if j = b then new else old.getLsbD j
    let result (k b : Nat) (r : Long) : Host.Outcome State Fault Refusal :=
      .next (((written sz ea r s).setFlags { s.flags with z := !old.getLsbD b }).advanced (k + eaWords .byte ea))
    let tested (k b : Nat) : Host.Outcome State Fault Refusal :=
      .next (((eaUpdate sz ea s).setFlags { s.flags with z := !old.getLsbD b }).advanced (k + eaWords .byte ea))
    let bi := bn.toNat % (match ea with | .dreg _ => 32 | _ => 8)
    let br := (s.getD dy).toNat % (match ea with | .dreg _ => 32 | _ => 8)
    (ea.short = true → extReady 1 1 s = true →
      (modifyReady sz 2 ea s = true →
        (∃ r, bits bi (!old.getLsbD bi) r ∧ exec (.bchgImm bn ea) s = result 2 bi r) ∧
        (∃ r, bits bi false r ∧ exec (.bclrImm bn ea) s = result 2 bi r) ∧
        (∃ r, bits bi true r ∧ exec (.bsetImm bn ea) s = result 2 bi r)) ∧
      (sourceReady sz 2 ea s = true → exec (.btstImm bn ea) s = tested 2 bi)) ∧
    (ea.dataAlterable = true → modifyReady sz 1 ea s = true →
      (∃ r, bits br (!old.getLsbD br) r ∧ exec (.bchgReg dy ea) s = result 1 br r) ∧
      (∃ r, bits br false r ∧ exec (.bclrReg dy ea) s = result 1 br r) ∧
      (∃ r, bits br true r ∧ exec (.bsetReg dy ea) s = result 1 br r)) ∧
    (ea.bitTest = true → sourceReady sz 1 ea s = true → exec (.btstReg dy ea) s = tested 1 br)

/-- TAS (R192): the byte gets bit 7 set, N and Z describe the byte before, V and C are cleared, X is kept; (An)+ steps its register
up by one, -(An) down by one. -/
def Obligations.TestAndSet : Prop :=
  ∀ (ea : Ea) (s : State), ea.memoryAlterable = true → modifyReady .byte 1 ea s = true →
    ∃ t, exec (.tas ea) s = .next t ∧
      t.byteAt (eaAddress .byte ea s) = s.byteAt (eaAddress .byte ea s) ||| 0x80#8 ∧
      t.flags = ⟨s.flags.x, (s.byteAt (eaAddress .byte ea s)).getLsbD 7,
        decide (s.byteAt (eaAddress .byte ea s) = 0#8), false, false⟩ ∧
      t.pc = s.pc + 2#32 * BitVec.ofNat 32 (1 + eaWords .byte ea) ∧ t.d = s.d ∧
      (∀ n, t.getA n = (eaUpdate .byte ea s).getA n) ∧
      (∀ n, ea = .postinc n → t.getA n = s.getA n + 1#32) ∧ (∀ n, ea = .predec n → t.getA n = s.getA n - 1#32) ∧
      (∀ a, a ≠ eaAddress .byte ea s → t.byteAt a = s.byteAt a)

/-! Program control. -/

/-- BRA, Bcc, BSR (R180, R182, R183, R189): the base is the opword's address plus 2 for every displacement size; BSR pushes the
address after its last word. -/
def Obligations.Branches : Prop :=
  ∀ (c : Cond) (d : Disp) (s : State), extReady 1 (dispWords d) s = true →
    let offset : Long := match d with
      | .byte b => b.signExtend 32
      | .word w => w.signExtend 32
      | .long l => l
    let words : Nat := match d with
      | .byte _ => 1
      | .word _ => 2
      | .long _ => 3
    exec (.bra d) s = .next { s with pc := s.pc + 2#32 + offset } ∧
    (condHolds c s.flags = true → exec (.bcc c d) s = .next { s with pc := s.pc + 2#32 + offset }) ∧
    (condHolds c s.flags = false → exec (.bcc c d) s = .next (s.advanced words)) ∧
    (pushReady s = true → exec (.bsr d) s =
      .next { pushed (s.pc + 2#32 * BitVec.ofNat 32 words) s with pc := s.pc + 2#32 + offset })

/-- JMP, JSR, RTS (R184 to R186): the target is the address itself; RTS pulls the PC. That JSR computes its address before the push
is the spec's choice (R185 marks it as decision D16: log 13). -/
def Obligations.JumpsAndReturns : Prop :=
  ∀ (ea : Ea) (s : State),
    (ea.control = true → eaReady .long 1 ea s = true →
      exec (.jmp ea) s = .next { s with pc := eaAddress .long ea s } ∧
      (pushReady s = true → exec (.jsr ea) s =
        .next { pushed (s.pc + 2#32 * BitVec.ofNat 32 (1 + eaWords .long ea)) s with pc := eaAddress .long ea s })) ∧
    (s.refuses .read s.sp 4 = false →
      exec .rts s = .next { s.setSp (s.sp + 4#32) with pc := s.load s.sp .long })

/-- PEA, LINK, UNLK (R159 to R161): the address is computed before the push; LINK and UNLK with a register other than A7. UNLK
changes no byte of memory, no flag, no other register, neither the stack pointer that is not active nor a control register. -/
def Obligations.StackInstructions : Prop :=
  ∀ (ea : Ea) (ax : Fin 8) (d16 : Word) (s : State),
    (ea.control = true → eaReady .long 1 ea s = true → pushReady s = true →
      exec (.pea ea) s = .next ((pushed (eaAddress .long ea s) s).advanced (1 + eaWords .long ea))) ∧
    (ax ≠ 7 → extReady 1 1 s = true → pushReady s = true →
      ∃ t, exec (.link ax d16) s = .next t ∧ t.load (s.sp - 4#32) .long = s.getA ax ∧
        t.getA ax = s.sp - 4#32 ∧ t.sp = s.sp - 4#32 + d16.signExtend 32 ∧ t.pc = s.pc + 4#32 ∧ t.sr = s.sr ∧ t.d = s.d) ∧
    (ax ≠ 7 → s.refuses .read (s.getA ax) 4 = false →
      ∃ t, exec (.unlk ax) s = .next t ∧ t.getA ax = s.load (s.getA ax) .long ∧ t.sp = s.getA ax + 4#32 ∧
        (∀ n, n ≠ ax → n ≠ 7 → t.getA n = s.getA n) ∧ t.otherSp = s.otherSp ∧ t.control = s.control ∧ t.mem = s.mem ∧
        t.pc = s.pc + 2#32 ∧ t.sr = s.sr ∧ t.d = s.d)

/-- NOP, TPF, TPF.W, TPF.L, PULSE, and, in supervisor mode, CPUSHL and INTOUCH (R187, R188, R328, R339, R340): the PC alone
moves, past the skipped words; the synchronizing ones forget what was stored (log 47). That CPUSHL and INTOUCH only advance the pc,
and that INTOUCH makes no access and so never faults whatever the platform refuses, is the model's choice, the spec having no page
for them (R339, R340: log 33); that the words TPF skips are fetched is decision D18 (log 15). -/
def Obligations.NoOperations : Prop :=
  ∀ s : State,
    exec .nop s = .next (s.synced.advanced 1) ∧ exec .tpf s = .next (s.advanced 1) ∧
    exec .pulse s = .next (s.advanced 1) ∧
    (∀ w, extReady 1 1 s = true → exec (.tpfW w) s = .next (s.advanced 2)) ∧
    (∀ w1 w2, extReady 1 2 s = true → exec (.tpfL w1 w2) s = .next (s.advanced 3)) ∧
    (∀ c ax, s.supervisor = true → exec (.cpushl c ax) s = .next (s.synced.advanced 1)) ∧
    (∀ ay, s.supervisor = true → exec (.intouch ay) s = .next (s.synced.advanced 1))

/-! System control. -/

/-- MOVE from SR, MOVE to SR, STLDSR in supervisor mode (R321, R322, R335): the implemented bits of SR; STLDSR pushes the
zero-extended SR first (the zero extension is the spec's decision: log 36; when `unsynced` is emptied is the model's choice: log 47). -/
def Obligations.StatusRegisterMoves : Prop :=
  ∀ s : State, s.supervisor = true →
    (∀ dx : Fin 8, s.sr &&& srMask s.cfg = s.sr →
      ∃ r, exec (.moveFromSr dx) s = .next ((s.setD dx r).advanced 1) ∧ r.extractLsb' 0 16 = s.sr ∧
        r.extractLsb' 16 16 = (s.getD dx).extractLsb' 16 16) ∧
    (∀ src : Ea, src.dregOrImm .word = true → sourceReady .word 1 src s = true →
      exec (.moveToSr src) s =
        .next (({ s with sr := (sourceValue .word src s).setWidth 16 &&& srMask s.cfg, unsynced := [] } : State).advanced
          (1 + eaWords .word src))) ∧
    (∀ imm : Word, extReady 1 2 s = true → pushReady s = true →
      (s.cfg.srImmSClear = .load ∨ imm.getLsbD 13 = true) →
      exec (.stldsr imm) s =
        .next (({ pushed (s.sr.setWidth 32) s with sr := imm &&& srMask s.cfg } : State).advanced 3))

/-- MOVE to and from USP (R323, R324): with the unit, in supervisor mode, with CACR[EUSP] set where the core has the bit. Without
the unit they raise IllegalInstruction in either mode. -/
def Obligations.UserStackPointerMoves : Prop :=
  ∀ (ax : Fin 8) (s : State),
    (uspPresent s.cfg = true → s.supervisor = true → (s.cfg.hasEuspBit = true → eusp s.cacr = true) →
      exec (.moveFromUsp ax) s = .next ((s.setA ax s.usp).advanced 1) ∧
      exec (.moveToUsp ax) s = .next (({ s with usp := s.getA ax } : State).advanced 1)) ∧
    (uspPresent s.cfg = false →
      exec (.moveFromUsp ax) s = .next (enter 4#8 s.pc 0#4 none s) ∧
      exec (.moveToUsp ax) s = .next (enter 4#8 s.pc 0#4 none s))

/-- MOVEC in supervisor mode, for every source register and every control register number (R336; the numbers are general knowledge,
the registers opaque words: log 29; `unsynced` is emptied even where
the write is none: log 47): the register named is written and no other, VBR keeping bits 31 to
20, ASID the low 8. CACR: A7 keeps its value whatever happens to EUSP (log 28), and USP is left unspecified only where EUSP goes
from 0 to 1 (U13, log 27). A number outside the table, or of a register the configuration lacks, is an unassigned encoding,
which traps or stops (log 9). -/
def Obligations.ControlRegisterWrites : Prop :=
  ∀ (rn : Fin 16) (rc : BitVec 12) (s : State), s.supervisor = true → extReady 1 1 s = true →
    let v := s.getR rn
    let late := decide (s.cfg.core = .v4) || decide (s.cfg.core = .v5)
    let mmu := s.cfg.hasMmu && late
    let writes (present : Bool) (t : State) : Prop :=
      (present = true → exec (.movec rn rc) s = .next (({ t with unsynced := [] } : State).advanced 2)) ∧
      (present = false → s.cfg.reserved = .trap → exec (.movec rn rc) s =
        .next (enter 4#8 s.pc 0#4 none { s with unsynced := [] })) ∧
      (present = false → s.cfg.reserved = .refuse → exec (.movec rn rc) s = .refused .unassigned)
    (rc = 0x002#12 → ∃ t, exec (.movec rn rc) s = .next t ∧ t.cacr = v ∧ t.sp = s.sp ∧
      ({ t with cacr := s.cacr, usp := s.usp, freeIdx := s.freeIdx } : State) = ({ s with unsynced := [] } : State).advanced 2 ∧
      (uspPresent s.cfg = false ∨ s.cfg.hasEuspBit = false ∨ eusp s.cacr = true ∨ eusp v = false → t.usp = s.usp)) ∧
    (rc = 0x003#12 → writes mmu { s with asid := v.extractLsb' 0 8 }) ∧
    (rc = 0x004#12 → writes true { s with acr0 := v }) ∧
    (rc = 0x005#12 → writes true { s with acr1 := v }) ∧
    (rc = 0x006#12 → writes late { s with acr2 := v }) ∧
    (rc = 0x007#12 → writes late { s with acr3 := v }) ∧
    (rc = 0x008#12 → writes mmu { s with mmubar := v }) ∧
    (rc = 0x801#12 → writes true { s with vbr := v.extractLsb' 20 12 ++ 0#20 }) ∧
    (rc = 0xC00#12 → writes s.cfg.deviceRegs.rombar0 { s with rombar0 := v }) ∧
    (rc = 0xC01#12 → writes s.cfg.deviceRegs.rombar1 { s with rombar1 := v }) ∧
    (rc = 0xC04#12 → writes s.cfg.deviceRegs.rambar0 { s with rambar0 := v }) ∧
    (rc = 0xC05#12 → writes s.cfg.deviceRegs.rambar1 { s with rambar1 := v }) ∧
    (rc = 0xC0F#12 → writes s.cfg.deviceRegs.mbar { s with mbar := v }) ∧
    (rc ∉ [0x002#12, 0x003#12, 0x004#12, 0x005#12, 0x006#12, 0x007#12, 0x008#12, 0x801#12, 0xC00#12, 0xC01#12, 0xC04#12,
      0xC05#12, 0xC0F#12] → writes false s)

/-- STOP and HALT in supervisor mode (R333, R334): STOP loads SR and stops; HALT halts the core. With T set before or by its operand
STOP takes the trace exception instead (R388 (d), which is general knowledge and decision D22: log 19). An operand of STOP or
STLDSR with bit 13 clear raises the privilege violation where `sr_imm_s_clear` says so (U12: log 26), STOP having synchronized before it
and STLDSR not (log 47). -/
def Obligations.StopAndHalt : Prop :=
  ∀ (imm : Word) (s : State), s.supervisor = true →
    exec .halt s = .next { s with pc := s.pc + 2#32, run := .halted .haltInstruction, unsynced := [] } ∧
    (extReady 1 1 s = true → (s.cfg.srImmSClear = .load ∨ imm.getLsbD 13 = true) →
      (s.trace = false → imm.getLsbD 15 = false → exec (.stop imm) s =
        .next { s with sr := imm &&& srMask s.cfg, pc := s.pc + 4#32, run := .stopped, unsynced := [] }) ∧
      (s.trace = true ∨ imm.getLsbD 15 = true → exec (.stop imm) s =
        .next (enter 9#8 (s.pc + 4#32) 0#4 none
          { s with sr := imm &&& srMask s.cfg, pc := s.pc + 4#32, unsynced := [] }))) ∧
    (s.cfg.srImmSClear = .privilegeViolation → imm.getLsbD 13 = false →
      (extReady 1 1 s = true → exec (.stop imm) s = .next (enter 8#8 s.pc 0#4 none { s with unsynced := [] })) ∧
      (extReady 1 2 s = true → exec (.stldsr imm) s = .next (enter 8#8 s.pc 0#4 none s)))

/-- RTE in supervisor mode (R325): SR and PC come from the frame, A7 moves past it by 8 plus FORMAT - 4 (the FORMAT table is
derived: log 37); a FORMAT outside 4 to 7 raises the format error and leaves the stack pointer for its entry (general knowledge
in R325 and R389: log 39); RTE has synchronized before it (log 47). -/
def Obligations.ReturnFromException : Prop :=
  ∀ s : State, s.supervisor = true → s.refuses .read s.sp 4 = false → s.refuses .read (s.sp + 4#32) 4 = false →
    let w := s.load s.sp .long
    let fmt := (w.extractLsb' 28 4).toNat
    (4 ≤ fmt → fmt ≤ 7 → exec .rte s =
      .next { s.setSp (s.sp + 8#32 + BitVec.ofNat 32 (fmt - 4)) with
        sr := w.extractLsb' 0 16 &&& srMask s.cfg, pc := s.load (s.sp + 4#32) .long, unsynced := [] }) ∧
    (fmt < 4 ∨ 7 < fmt → exec .rte s = .next (enter 14#8 s.pc 0#4 none { s with unsynced := [] }))

/-- TRAP and ILLEGAL in either mode (R326, R327): exception entry with vector 32 + v and the next PC, or vector 4 and the PC of
the instruction. -/
def Obligations.TrapAndIllegal : Prop :=
  ∀ s : State,
    (∀ v : Fin 16, exec (.trap v) s = .next (enter (BitVec.ofNat 8 (32 + v.val)) (s.pc + 2#32) 0#4 none s)) ∧
    exec .illegal s = .next (enter 4#8 s.pc 0#4 none s)

/-- A privileged instruction in user mode (R320, R387): the exception with vector 8, entered from the unchanged state (MOVE to
and from USP where the unit is present); the ones R75 names have synchronized before it (the model's choice: log 47). No premise
asks for its words after the opcode: the check precedes their fetch (decision D19 of R320 (b): log 16). -/
def Obligations.PrivilegeViolations : Prop :=
  ∀ (i : Instr) (s : State), isPrivileged i = true → s.supervisor = false →
    ((∀ r, i ≠ .moveToUsp r) ∧ (∀ r, i ≠ .moveFromUsp r) ∨ uspPresent s.cfg = true) →
    exec i s = .next (enter 8#8 s.pc 0#4 none (if synchronizes i then { s with unsynced := [] } else s))

/-- The instructions the spec's rules refuse: WDEBUG in supervisor mode (R337), LINK A7 and UNLK A7 (R160, R161), MOVE to and from
USP with CACR[EUSP] clear (R323, R324). -/
def Obligations.SpecifiedRefusals : Prop :=
  ∀ s : State,
    (∀ src, s.supervisor = true → exec (.wdebug src) s = .refused .debugModule) ∧
    (∀ d16, extReady 1 1 s = true → exec (.link 7 d16) s = .refused .linkA7) ∧
    exec (.unlk 7) s = .refused .unlkA7 ∧
    (∀ ax, uspPresent s.cfg = true → s.supervisor = true → s.cfg.hasEuspBit = true → eusp s.cacr = false →
      exec (.moveFromUsp ax) s = .refused .uspDisabled ∧ exec (.moveToUsp ax) s = .refused .uspDisabled)

/-! Exceptions. -/

/-- Exception entry (R372 to R377): the frame on the longword-aligned supervisor stack, the saved SR, S set and T cleared, for an
interrupt M cleared and I set; the handler's address from the vector table; no other register and no other byte changes. The
place of the frame and FORMAT = 4 + A7 mod 4 are the spec's inference (R375 marks the table as derived: log 37). -/
def Obligations.ExceptionEntry : Prop :=
  ∀ (vec : Byte) (spc : Long) (fs : BitVec 4) (level : Option (BitVec 3)) (s : State),
    let e := { s with sr := entrySr level s.sr }
    let base := (e.sp &&& 0xFFFFFFFC#32) - 8#32
    let t := enter vec spc fs level s
    e.refuses .write base 4 = false → e.refuses .write (base + 4#32) 4 = false →
    e.refuses .read (s.vbr + 4#32 * vec.setWidth 32) 4 = false →
    t.sp = base ∧ t.supervisor = true ∧ t.trace = false ∧ t.flags = s.flags ∧
    (∀ l, level = some l → t.mask = l ∧ t.sr.getLsbD 12 = false) ∧
    (level = none → t.mask = s.mask ∧ t.sr.getLsbD 12 = s.sr.getLsbD 12) ∧
    (t.load base .long).extractLsb' 0 16 = s.sr ∧ (t.load base .long).extractLsb' 18 8 = vec ∧
    ((t.load base .long).extractLsb' 26 2 ++ (t.load base .long).extractLsb' 16 2) = fs ∧
    ((t.load base .long).extractLsb' 28 4).toNat = 4 + e.sp.toNat % 4 ∧
    t.load (base + 4#32) .long = spc ∧
    t.pc = t.load (s.vbr + 4#32 * vec.setWidth 32) .long ∧
    t.inhibit = true ∧ t.run = .running ∧ t.d = s.d ∧ t.a = s.a ∧ t.control = s.control ∧ t.otherSp = e.otherSp ∧
    (∀ a : Long, a.toNat ∉ spanOf base 8 → t.byteAt a = s.byteAt a)

/-- Entry and return are inverse, for an entry from either mode and for an interrupt too (R325, R375): RTE straight after an entry
restores SR with its mode, both stack pointers whatever their alignment, and continues at the stacked PC. It rests on the FORMAT
table, which the spec derives (log 37). -/
def Obligations.EntryThenReturn : Prop :=
  ∀ (vec : Byte) (spc : Long) (fs : BitVec 4) (level : Option (BitVec 3)) (s : State),
    let e := { s with sr := entrySr level s.sr }
    let base := frameBase e.sp
    s.Inv →
    e.refuses .write base 4 = false → e.refuses .write (base + 4#32) 4 = false →
    e.refuses .read base 4 = false → e.refuses .read (base + 4#32) 4 = false →
    e.refuses .read (vectorAddress s.vbr vec) 4 = false →
    ∃ t, exec .rte (enter vec spc fs level s) = .next t ∧
      t.sr = s.sr ∧ t.pc = spc ∧ t.sp = s.sp ∧ t.ssp = s.ssp ∧ t.usp = s.usp ∧ t.d = s.d ∧ t.a = s.a ∧ t.control = s.control

/-- Fault on fault (R397): a refused frame write or vector read halts the core, with SR already changed and A7 changed only if
both frame writes succeeded. Which accesses count and what stays changed are decision D21 (log 18). -/
def Obligations.FaultOnFault : Prop :=
  ∀ (vec : Byte) (spc : Long) (fs : BitVec 4) (level : Option (BitVec 3)) (s : State),
    let e := { s with sr := entrySr level s.sr }
    let base := frameBase e.sp
    let t := enter vec spc fs level s
    (e.refuses .write base 4 = true ∨ e.refuses .write (base + 4#32) 4 = true →
      t.run = .halted (.faultOnFault vec 2#8) ∧ t.sr = entrySr level s.sr ∧ t.sp = e.sp ∧ t.d = s.d ∧ t.a = s.a) ∧
    (e.refuses .write base 4 = false → e.refuses .write (base + 4#32) 4 = false →
      e.refuses .read (vectorAddress s.vbr vec) 4 = true →
      t.run = .halted (.faultOnFault vec 2#8) ∧ t.sr = entrySr level s.sr ∧ t.sp = base)

/-- Access errors of operands (R376, R381, R383), the refused access not happening. MOVE.L: a refused read or precise write raises
vector 2 with its fault status, the address register updates stay. A refused push leaves the stack pointer decremented. MOVEM:
what was moved stays. A read-modify-write: FS 1100 for its read, the write's status for its write. What stays changed is decision
D17 (log 14; for MOVEM also general knowledge). Under `imprecise` the write is dropped, the instruction completes and the fault
waits; it is reported with the pc of a boundary that the environment chooses, no later than the one before a synchronizing
instruction, and otherwise the boundary goes on (decision D6: log 5, log 48); reported at the boundary between an exception entry and
the first opword of its handler too, it is an ordinary nested exception, not a halt (the model's choice: log 49). A waiting fault
keeps FS 1001 in a write-protected region (log 5); of two refusing regions the first in the list gives the status (log 4). -/
def Obligations.AccessErrors : Prop :=
  (∀ (n : Fin 8) (ea : Ea) (s : State),
    (isMemory ea = true → eaReady .long 1 ea s = true → eaAllows .read .long ea s = false →
      exec (.moveL ea (.dreg n)) s = .next (enter 2#8 s.pc 0xC#4 none (eaUpdate .long ea s))) ∧
    (∀ r, ea.memoryAlterable = true → eaReady .long 1 ea s = true →
      s.refusing .write (eaAddress .long ea s) 4 = some r →
      (s.cfg.writeFaultMode = .precise → exec (.moveL (.dreg n) ea) s =
        .next (enter 2#8 s.pc (if r.writeProtect then 9#4 else 8#4) none (eaUpdate .long ea s))) ∧
      (s.cfg.writeFaultMode = .imprecise → ∃ t, exec (.moveL (.dreg n) ea) s = .next t ∧ t.mem = s.mem ∧
        t.writeFaults = s.writeFaults ++ [if r.writeProtect then 9#4 else 8#4] ∧
        t.pc = s.pc + 2#32 * BitVec.ofNat 32 (1 + eaWords .long ea)))) ∧
  (∀ (i : Instr) (s : State) (r : Region), pushes i s = true → s.refusing .write (s.sp - 4#32) 4 = some r →
    (s.cfg.writeFaultMode = .precise → exec i s =
      .next (enter 2#8 s.pc (if r.writeProtect then 9#4 else 8#4) none (s.setSp (s.sp - 4#32)))) ∧
    (s.cfg.writeFaultMode = .imprecise → ∃ t, exec i s = .next t ∧ t.mem = s.mem ∧
      t.writeFaults = s.writeFaults ++ [if r.writeProtect then 9#4 else 8#4])) ∧
  (∀ (mask : Word) (ea : Ea) (s : State) (k : Nat), ea.block = true → extReady 1 1 s = true → eaReady .long 2 ea s = true →
    k < (maskRegs mask).length →
    let at_ (j : Nat) : Long := eaAddress .long ea s + BitVec.ofNat 32 (4 * j)
    (∀ r, (∀ j, j < k → s.refuses .write (at_ j) 4 = false) → s.refusing .write (at_ k) 4 = some r →
      s.cfg.writeFaultMode = .precise →
      ∃ u, exec (.movemStore mask ea) s = .next (enter 2#8 s.pc (if r.writeProtect then 9#4 else 8#4) none u) ∧
        (∀ j q, j < k → (maskRegs mask)[j]? = some q → u.load (at_ j) .long = s.getR q) ∧
        Frame [] [] (spanOf (at_ 0) (4 * k)) s u ∧ u.sr = s.sr ∧ u.pc = s.pc) ∧
    ((∀ j, j < k → s.refuses .read (at_ j) 4 = false) → s.refuses .read (at_ k) 4 = true →
      ∃ u, exec (.movemLoad mask ea) s = .next (enter 2#8 s.pc 0xC#4 none u) ∧
        (∀ j q, j < k → (maskRegs mask)[j]? = some q → u.getR q = s.load (at_ j) .long) ∧
        (∀ q, q ∉ (maskRegs mask).take k → u.getR q = s.getR q) ∧
        u.mem = s.mem ∧ u.sr = s.sr ∧ u.control = s.control ∧ u.otherSp = s.otherSp ∧ u.pc = s.pc)) ∧
  (∀ (i : Instr) (sz : Size) (off : Nat) (ea : Ea) (s : State), modifyForm i = some (sz, off, ea) →
    extReady 1 (off - 1) s = true → eaReady sz off ea s = true →
    (eaAllows .read sz ea s = false → exec i s = .next (enter 2#8 s.pc 0xC#4 none (eaUpdate sz ea s))) ∧
    (∀ r, eaAllows .read sz ea s = true → s.refusing .write (eaAddress sz ea s) sz.bytes = some r →
      (s.cfg.writeFaultMode = .precise → exec i s =
        .next (enter 2#8 s.pc (if r.writeProtect then 9#4 else 8#4) none (eaUpdate sz ea s))) ∧
      (s.cfg.writeFaultMode = .imprecise → ∃ t, exec i s = .next t ∧ t.mem = s.mem ∧
        t.writeFaults = s.writeFaults ++ [if r.writeProtect then 9#4 else 8#4]))) ∧
  (∀ (s : State) (fs : BitVec 4) (rest : List (BitVec 4)), s.run = .running → s.writeFaults = fs :: rest →
    (s.deliver = [] ∨ s.deliver.head? = some true ∨ (∃ i, recognized s = some i ∧ synchronizes i = true) →
      step s = .next (enter 2#8 s.pc fs none
        { s with irq := s.irq.tail, writeFaults := rest, deliver := s.deliver.tail })) ∧
    (∀ i ws, s.deliver.head? = some false → s.noInterrupt → s.opcodeReady → decode (s.words s.pc) = .ok (i, ws) →
      assigned s.cfg i = true → synchronizes i = false →
      step s =
        match exec i { s.pastBoundary with deliver := s.deliver.tail, inhibit := false, firstFetch := none } with
        | .next t => .next (traceAfter s.trace t)
        | .fault f => .fault f
        | .refused r => .refused r))

/-- Address errors and faults of fetches (R128, R376, R382, R396, R397). A brief extension word with W/L = 0, bit 8 set or scale 8
without an FPU raises vector 3 with nothing changed (for bit 8 and scale 8 the spec's decision: log 12), for every instruction whose
first operand is indexed, and for an indexed destination of MOVE, where the source's update of its register is undone too. The
stacked `fs_address_error` is decision D24 (log 20). An odd pc raises vector 3 with the odd address stacked (decision D4: log 3), a
refused opword vector 2 with FS 0100; while exception processing is not over both halt the core (decision D21: log 18). A refused
second word raises vector 2 with FS 0100 before the privilege check (log 16) and before the opcode is recognized, also where no
second word makes it legal (the model's choice: log 50). A refused extension word raises vector 2 with FS 0100 and what was changed
before it stays (decision D17: log 14), the words TPF skips included (decision D18: log 15), MOVE's destination words coming after
its source's (general knowledge: log 32). A word that the run stored and did not synchronize stops the model (R77: log 6). -/
def Obligations.FetchAndAddressErrors : Prop :=
  (∀ (w : Word) (s : State),
    (w.getLsbD 11 = false ∨ w.getLsbD 8 = true ∨ (w.extractLsb' 9 2 = 3#2 ∧ s.cfg.hasFpu = false)) →
    (∀ (i : Instr) (own : Nat) (sz : Size) (ea : Ea), i.wf = true → leadingEa i = some (own, sz, ea) →
      ea = .pcIndex w ∨ (∃ ax, ea = .index ax w) → extReady 1 (own + 1) s = true →
      exec i s = .next (enter 3#8 s.pc s.cfg.fsAddressError none s)) ∧
    (∀ (sz : Size) (src : Ea) (ax : Fin 8), sourceReady sz 1 src s = true → extReady (1 + eaWords sz src) 1 s = true →
      exec (moveInstr sz src (.index ax w)) s = .next (enter 3#8 s.pc s.cfg.fsAddressError none s))) ∧
  (∀ s : State, s.run = .running → s.writeFaults = [] → s.noInterrupt →
    let b := { s.pastBoundary with inhibit := false }
    (s.pc.getLsbD 0 = true →
      (s.firstFetch = none → step s = .next (enter 3#8 s.pc s.cfg.fsAddressError none b)) ∧
      (∀ v, s.firstFetch = some v → step s = .next { b with run := .halted (.faultOnFault v 3#8) })) ∧
    (s.pc.getLsbD 0 = false → s.refuses .fetch s.pc 2 = true →
      (s.firstFetch = none → step s = .next (enter 2#8 s.pc 4#4 none b)) ∧
      (∀ v, s.firstFetch = some v → step s = .next { b with run := .halted (.faultOnFault v 2#8) })) ∧
    (s.pc.getLsbD 0 = false → s.refuses .fetch s.pc 2 = false → s.dirty s.pc = true → step s = .refused .selfModified) ∧
    (s.opwordReady → needsSecondWord (s.word s.pc).toNat = true →
      (s.refuses .fetch (s.pc + 2#32) 2 = true → step s = .next (enter 2#8 s.pc 4#4 none { b with firstFetch := none })) ∧
      (s.refuses .fetch (s.pc + 2#32) 2 = false → s.dirty (s.pc + 2#32) = true → step s = .refused .selfModified))) ∧
  (∀ (i : Instr) (s : State) (k : Nat), i.wf = true → (isPrivileged i = true → s.supervisor = true) → k < leadingWords i →
    extReady 1 k s = true →
    let a := s.pc + 2#32 * BitVec.ofNat 32 (1 + k)
    (s.refuses .fetch a 2 = true → exec i s = .next (enter 2#8 s.pc 4#4 none s)) ∧
    (s.refuses .fetch a 2 = false → s.dirty a = true → exec i s = .refused .selfModified)) ∧
  (∀ (sz : Size) (src dst : Ea) (s : State) (k : Nat), dst.dataAlterable = true → sourceReady sz 1 src s = true →
    k < eaWords sz dst → extReady (1 + eaWords sz src) k s = true →
    let a := s.pc + 2#32 * BitVec.ofNat 32 (1 + eaWords sz src + k)
    (s.refuses .fetch a 2 = true →
      exec (moveInstr sz src dst) s = .next (enter 2#8 s.pc 4#4 none (eaUpdate sz src s))) ∧
    (s.refuses .fetch a 2 = false → s.dirty a = true → exec (moveInstr sz src dst) s = .refused .selfModified))

/-- Opwords the configuration does not implement (R114, R385, R386). A line-A opword raises vector 10, a line-F opword vector 11, with
the PC of the opword, whatever `reserved_encoding_behaviour` says (the spec's inference: log 31); with a MAC unit configured a
line-A opword, with the FPU configured an FPU opword, is refused (U1: log 30). On the other lines `trap` raises vector 4 and
`refuse` stops (decision D12 of R114: log 9). That an opword inside a two-word pattern is judged after its second word is fetched
(`opcodeReady`) is log 50. -/
def Obligations.UnassignedOpwords : Prop :=
  ∀ s : State, s.run = .running → s.writeFaults = [] → s.noInterrupt → s.opcodeReady → recognized s = none →
    let b := { s.pastBoundary with inhibit := false, firstFetch := none }
    let line := (s.word s.pc).extractLsb' 12 4
    let mac := s.cfg.hasMac || s.cfg.hasEmac || s.cfg.hasEmacB
    let fpu := s.cfg.hasFpu && decide ((s.word s.pc).extractLsb' 9 7 = 0x79#7)
    (line = 0xA#4 → (mac = false → step s = .next (enter 10#8 s.pc 0#4 none b)) ∧ (mac = true → step s = .refused .mac)) ∧
    (line = 0xF#4 → (fpu = false → step s = .next (enter 11#8 s.pc 0#4 none b)) ∧ (fpu = true → step s = .refused .fpu)) ∧
    (line ≠ 0xA#4 → line ≠ 0xF#4 →
      (s.cfg.reserved = .trap → step s = .next (enter 4#8 s.pc 0#4 none b)) ∧
      (s.cfg.reserved = .refuse → step s = .refused .unassigned))

/-- Interrupts (R390, R391, R398): an acceptable request at a boundary of a running core is taken with its vector, level and the
pc of the next instruction, unless sampling is inhibited; a stopped core waits for one; a masked request changes nothing but
the sampling record; a halted core does nothing. The input `irq`, the edge of level 7 and the consumed sampling record are
decision D25 (log 21); that requests are sampled between instructions only is general knowledge (R391: log 44). -/
def Obligations.Interrupts : Prop :=
  ∀ s : State,
    (∀ r, s.request = some r → acceptable s r = true →
      (s.run = .running → s.writeFaults = [] → s.inhibit = false →
        step s = .next (enter r.vector s.pc 0#4 (some r.level) s.sampled)) ∧
      (s.run = .stopped → step s = .next (enter r.vector s.pc 0#4 (some r.level) s.sampled))) ∧
    (s.run = .stopped → (∀ r, s.request = some r → acceptable s r = false) → step s = .next s.sampled) ∧
    (∀ why, s.run = .halted why → step s = .next s) ∧
    (∀ r : Irq, s.mask.toNat < r.level.toNat → acceptable s r = true) ∧
    (∀ r : Irq, r.level ≠ 7#3 → r.level.toNat ≤ s.mask.toNat → acceptable s r = false) ∧
    (∀ r : Irq, r.level = 7#3 → s.irq7 = false → acceptable s r = true) ∧
    (∀ r : Irq, r.level = 7#3 → s.irq7 = true → s.mask = 7#3 → acceptable s r = false)

/-- Trace (R388): an instruction that starts with T set and raises nothing is followed by vector 9 with the PC of the next
instruction; an instruction that sets T itself is not traced, nor one that took an exception, stopped or halted. Which T bit
counts, the stacked PC and what is not traced are general knowledge and decision D22 (log 19). -/
def Obligations.Trace : Prop :=
  ∀ (s t : State) (i : Instr) (rest : List Word),
    s.run = .running → s.writeFaults = [] → s.noInterrupt → s.opcodeReady →
    decode (s.words s.pc) = .ok (i, rest) → assigned s.cfg i = true →
    exec i { s.pastBoundary with inhibit := false, firstFetch := none } = .next t →
    (t.quiet → (s.trace = true → step s = .next (enter 9#8 t.pc 0#4 none t)) ∧ (s.trace = false → step s = .next t)) ∧
    (¬t.quiet → step s = .next t)

/-- User mode cannot change a control register, the upper byte of SR, the supervisor stack pointer (where there are two) or the
mode: a step from user mode either leaves them, or takes an exception or halts the core inside one (R31, R32, R402). -/
def Obligations.UserModeConfined : Prop :=
  ∀ s t : State, s.run = .running → s.supervisor = false → step s = .next t →
    t.control = s.control ∧ t.freeIdx = s.freeIdx ∧
    (t.inhibit = false → t.run = .running →
      t.supervisor = false ∧ t.sr.extractLsb' 8 8 = s.sr.extractLsb' 8 8 ∧ (s.dualSp = true → t.ssp = s.ssp)) ∧
    (t.supervisor = true → t.inhibit = true ∨ t.run ≠ .running)

/-! Frames. -/

/-- The instructions of `dataForm` (a data register destination) and `flagForm` (flags only): where they take no exception they
change that register, the address register their source updates, and the flags, and nothing else but the pc; no byte of
memory. -/
def Obligations.DataRegisterFrame : Prop :=
  ∀ (i : Instr) (s t : State), i.wf = true → exec i s = .next t → s.quiet → t.quiet →
    (∀ dx src, dataForm i = some (dx, src) → Frame [dx] (eaUpdates src) [] s t) ∧
    (∀ src, flagForm i = some src → Frame [] (eaUpdates src) [] s t ∨
      (∃ e, i = .moveToCcr e ∧ t.sr.extractLsb' 8 8 = s.sr.extractLsb' 8 8 ∧ t.d = s.d ∧ t.mem = s.mem ∧
        (∀ n, t.getA n = s.getA n) ∧ t.control = s.control))

/-- The instructions of `storeForm`: where they take no exception every byte outside the destination operand, at the address
the meaning evaluates after the source's update (for MOVE decision D16 of R136, the model's choice: log 13), reads as before; only
the destination register and the updated address registers change. -/
def Obligations.DestinationFrame : Prop :=
  ∀ (i : Instr) (sz : Size) (dst src : Ea) (s t : State), i.wf = true → storeForm i = some (sz, dst, src) →
    exec i s = .next t → s.quiet → t.quiet →
    Frame (destD dst) (destA dst ++ eaUpdates src ++ eaUpdates dst) (storedBytes sz dst (eaUpdate sz src s)) s t

/-- The instructions of `addressForm` and `flowForm`: where they take no exception the first change the destination address
register and the one their source updates, the second the pc alone; no flag, no byte, no data register changes. -/
def Obligations.AddressAndFlowFrame : Prop :=
  ∀ (i : Instr) (s t : State), i.wf = true → exec i s = .next t → s.quiet → t.quiet →
    (∀ ax src, addressForm i = some (ax, src) → Frame [] (ax :: eaUpdates src) [] s t ∧ t.sr = s.sr) ∧
    (flowForm i = true → Frame [] [] [] s t ∧ t.sr = s.sr)

/-- PEA, JSR, BSR, LINK (`pushForm`): where they take no exception only the four bytes below the active stack pointer, the stack
pointer and LINK's register change; the flags do not. -/
def Obligations.PushFrame : Prop :=
  ∀ (i : Instr) (regs : List (Fin 8)) (s t : State), i.wf = true → pushForm i = some regs →
    exec i s = .next t → s.quiet → t.quiet → Frame [] regs (spanOf (s.sp - 4#32) 4) s t ∧ t.sr = s.sr
end

