-- ==== Sys2Proof/Laws/Decode.lean ====
section
/-! SUPPORT. What the decoder answers is well-formed. -/

namespace Sys2Proof

/-- A decoded instruction is well-formed. -/
theorem decode_wf (ws rest : List Word) (i : Instr) (h : decode ws = .ok (i, rest)) : i.wf = true := by
  cases ws with
  | nil => cases h
  | cons w ws =>
    simp only [decode] at h
    split at h
    · cases h
    · split at h
      · cases h
      · split at h
        · rename_i g
          cases h
          exact g
        · cases h

end Sys2Proof
end

