-- ==== Sys2Proof/Laws/Memory.lean ====
section
/-! SUPPORT. Memory: what a read gives after a write, and that every operation keeps the canonical form. -/

namespace Sys2Proof.Machine

-- One theorem after another: elaborating them side by side takes a thread each, and no less time.
set_option Elab.async false

/-! One byte. -/

theorem Memory.read_erase (m : List Host.Cell) (a b : Nat) :
    Memory.read (Memory.erase m a) b = if a = b then Memory.unlisted else Memory.read m b := by
  induction m with
  | nil => simp [Memory.erase, Memory.read]
  | cons c m ih =>
    obtain ⟨k, v⟩ := c
    by_cases hk : k = a
    · have : Memory.erase ((k, v) :: m) a = Memory.erase m a := by simp [Memory.erase, hk]
      rw [this, ih]
      by_cases hb : a = b
      · simp [hb]
      · simp [hb, Memory.read, hk]
    · have : Memory.erase ((k, v) :: m) a = (k, v) :: Memory.erase m a := by simp [Memory.erase, hk]
      rw [this]
      simp only [Memory.read, ih]
      by_cases hb : k = b
      · simp [hb, show ¬ a = b by omega]
      · simp [hb]

theorem Memory.read_insert (m : List Host.Cell) (a b : Nat) (v : Byte) (h : Memory.read m a = Memory.unlisted)
    (hn : ∀ c ∈ m, c.1 ≠ a) :
    Memory.read (Memory.insert a v m) b = if a = b then v else Memory.read m b := by
  induction m with
  | nil => simp [Memory.insert, Memory.read]
  | cons c m ih =>
    obtain ⟨k, w⟩ := c
    have hk : k ≠ a := hn (k, w) (by simp)
    have hr : Memory.read m a = Memory.unlisted := by simpa [Memory.read, hk] using h
    have ih := ih hr fun c hc => hn c (by simp [hc])
    unfold Memory.insert
    split
    · simp [Memory.read]
    · simp only [Memory.read, ih]
      by_cases hb : k = b
      · simp [hb, show ¬ a = b by omega]
      · simp [hb]

/-- The byte at `b` after the byte at `a` was written. -/
theorem Memory.read_write (m : List Host.Cell) (a b : Nat) (v : Byte) :
    Memory.read (Memory.write m a v) b = if a = b then v else Memory.read m b := by
  unfold Memory.write
  split
  · rename_i h
    rw [Memory.read_erase, h]
  · rw [Memory.read_insert]
    · rw [Memory.read_erase]
      by_cases h : a = b <;> simp [h]
    · simp [Memory.read_erase]
    · intro c hc
      simp only [Memory.erase, List.mem_filter] at hc
      simpa using hc.2

/-! The canonical form. -/

theorem Memory.wf_iff (m : List Host.Cell) :
    Memory.wf m = true ↔
      m.Pairwise (fun c e => c.1 < e.1) ∧ ∀ c ∈ m, c.2 ≠ Memory.unlisted ∧ c.1 < 2 ^ 32 := by
  simp [Memory.wf]

theorem Memory.wf_erase (m : List Host.Cell) (a : Nat) (h : Memory.wf m = true) : Memory.wf (Memory.erase m a) = true := by
  rw [Memory.wf_iff] at h ⊢
  exact ⟨h.1.filter _, fun c hc => h.2 c (List.mem_of_mem_filter hc)⟩

theorem Memory.mem_insert (m : List Host.Cell) (a : Nat) (v : Byte) (c : Host.Cell) :
    c ∈ Memory.insert a v m ↔ c = (a, v) ∨ c ∈ m := by
  induction m with
  | nil => simp [Memory.insert]
  | cons e m ih =>
    unfold Memory.insert
    split
    · simp
    · simp only [List.mem_cons, ih]
      tauto

theorem Memory.pairwise_insert (m : List Host.Cell) (a : Nat) (v : Byte) (h : m.Pairwise fun c e => c.1 < e.1)
    (hn : ∀ c ∈ m, c.1 ≠ a) : (Memory.insert a v m).Pairwise fun c e => c.1 < e.1 := by
  induction m with
  | nil => simp [Memory.insert]
  | cons e m ih =>
    have hp := List.pairwise_cons.mp h
    unfold Memory.insert
    split
    · rename_i hlt
      refine List.pairwise_cons.mpr ⟨fun c hc => ?_, h⟩
      rcases List.mem_cons.mp hc with rfl | hc
      · exact hlt
      · exact lt_trans hlt (hp.1 c hc)
    · rename_i hlt
      refine List.pairwise_cons.mpr ⟨fun c hc => ?_, ih hp.2 fun c hc => hn c (by simp [hc])⟩
      rcases (Memory.mem_insert m a v c).mp hc with rfl | hc
      · exact lt_of_le_of_ne (by omega) (hn e (by simp))
      · exact hp.1 c hc

/-- Writing a byte keeps the canonical form. -/
theorem Memory.wf_write (m : List Host.Cell) (a : Nat) (v : Byte) (h : Memory.wf m = true) (ha : a < 2 ^ 32) :
    Memory.wf (Memory.write m a v) = true := by
  unfold Memory.write
  split
  · exact Memory.wf_erase m a h
  · rename_i hv
    have he := (Memory.wf_iff _).mp (Memory.wf_erase m a h)
    rw [Memory.wf_iff]
    refine ⟨Memory.pairwise_insert _ a v he.1 fun c hc => ?_, fun c hc => ?_⟩
    · simp only [Memory.erase, List.mem_filter] at hc
      simpa using hc.2
    · rcases (Memory.mem_insert _ a v c).mp hc with rfl | hc
      · exact ⟨hv, ha⟩
      · exact he.2 c hc

/-- Storing an operand keeps the canonical form. -/
theorem Memory.wf_storeOf (m : List Host.Cell) (a : Long) (sz : Size) (v : Long) (h : Memory.wf m = true) :
    Memory.wf (storeOf m a sz v) = true := by
  have lt : ∀ x : Long, x.toNat < 2 ^ 32 := fun x => x.isLt
  cases sz <;> simp only [storeOf]
  · exact Memory.wf_write _ _ _ h (lt _)
  · exact Memory.wf_write _ _ _ (Memory.wf_write _ _ _ h (lt _)) (lt _)
  · exact Memory.wf_write _ _ _ (Memory.wf_write _ _ _ (Memory.wf_write _ _ _ (Memory.wf_write _ _ _ h (lt _)) (lt _))
      (lt _)) (lt _)

/-! Operands. -/

/-- A byte at a 32-bit address after a byte was written at another. -/
theorem byteOf_write (m : List Host.Cell) (a b : Long) (v : Byte) :
    byteOf (Memory.write m a.toNat v) b = if a = b then v else byteOf m b := by
  simp only [byteOf, Memory.read_write, BitVec.toNat_inj]

/-- The addresses of a byte, a word and a longword. -/
theorem spanOf_byte (a : Long) : spanOf a 1 = [a.toNat] := by
  have h : a + BitVec.ofNat 32 0 = a := by simp
  simp only [spanOf, List.range_succ, List.range_zero, List.nil_append, List.map_cons, List.map_nil, h]

theorem spanOf_word (a : Long) : spanOf a 2 = [a.toNat, (a + 1#32).toNat] := by
  have h : a + BitVec.ofNat 32 0 = a := by simp
  simp only [spanOf, List.range_succ, List.range_zero, List.nil_append, List.map_append, List.map_cons, List.map_nil, h]
  rfl

theorem spanOf_long (a : Long) :
    spanOf a 4 = [a.toNat, (a + 1#32).toNat, (a + 2#32).toNat, (a + 3#32).toNat] := by
  have h : a + BitVec.ofNat 32 0 = a := by simp
  simp only [spanOf, List.range_succ, List.range_zero, List.nil_append, List.map_append, List.map_cons, List.map_nil, h]
  rfl

/-- A store leaves every byte outside the operand. -/
theorem byteOf_storeOf_frame (m : List Host.Cell) (a b : Long) (sz : Size) (v : Long)
    (h : b.toNat ∉ spanOf a sz.bytes) : byteOf (storeOf m a sz v) b = byteOf m b := by
  cases sz <;> simp only [Size.bytes, spanOf_byte, spanOf_word, spanOf_long, List.mem_cons, List.not_mem_nil, or_false,
    not_or, BitVec.toNat_inj, ← ne_eq] at h <;> simp only [storeOf, byteOf_write]
  · simp [h.symm]
  · simp [h.1.symm, h.2.symm]
  · simp [h.1.symm, h.2.1.symm, h.2.2.1.symm, h.2.2.2.symm]

theorem add_ne (a : Long) (i j : Nat) (hi : i < 4) (hj : j < 4) (h : i ≠ j) :
    a + BitVec.ofNat 32 i ≠ a + BitVec.ofNat 32 j := by
  intro he
  have := congrArg BitVec.toNat he
  simp only [BitVec.toNat_add, BitVec.toNat_ofNat] at this
  omega

/-- What a load reads is what the store of the same size at the same address wrote. -/
theorem loadOf_storeOf (m : List Host.Cell) (a : Long) (sz : Size) (v : Long) :
    loadOf (storeOf m a sz v) a sz = sz.trunc v := by
  have h01 : a ≠ a + 1#32 := by simp
  have h02 : a ≠ a + 2#32 := by simp
  have h03 : a ≠ a + 3#32 := by simp
  have h12 : a + 1#32 ≠ a + 2#32 := add_ne a 1 2 (by decide) (by decide) (by decide)
  have h13 : a + 1#32 ≠ a + 3#32 := add_ne a 1 3 (by decide) (by decide) (by decide)
  have h23 : a + 2#32 ≠ a + 3#32 := add_ne a 2 3 (by decide) (by decide) (by decide)
  cases sz <;> simp only [storeOf, loadOf, byteOf_write, Size.trunc]
  · ext i hi
    simp [BitVec.getElem_setWidth]
  · simp only [h01.symm, if_true, if_false]
    ext i hi
    simp only [BitVec.getElem_setWidth, BitVec.getLsbD_append, BitVec.getLsbD_extractLsb', BitVec.getLsbD_setWidth]
    by_cases h8 : i < 8
    · simp [h8, show i < 16 by omega]
    · by_cases h16 : i < 16
      · simp [h8, h16, show i - 8 < 8 by omega, show 8 + (i - 8) = i by omega]
      · simp [h8, h16, show ¬ i - 8 < 8 by omega]
  · simp only [h01.symm, h02.symm, h03.symm, h12.symm, h13.symm, h23.symm, if_true, if_false]
    ext i hi
    simp only [BitVec.getElem_append, BitVec.getElem_extractLsb']
    split
    · simp [BitVec.getLsbD_eq_getElem hi]
    · split
      · simp [show 8 + (i - 8) = i by omega, BitVec.getLsbD_eq_getElem hi]
      · split
        · simp [show 16 + (i - 8 - 8) = i by omega, BitVec.getLsbD_eq_getElem hi]
        · simp [show 24 + (i - 8 - 8 - 8) = i by omega, BitVec.getLsbD_eq_getElem hi]

/-! The addresses stored to. -/

theorem Addresses.mem_insert (a x : Nat) (ks : List Nat) : x ∈ Addresses.insert a ks ↔ x = a ∨ x ∈ ks := by
  induction ks with
  | nil => simp [Addresses.insert]
  | cons k ks ih =>
    unfold Addresses.insert
    split
    · simp
    · split
      · rename_i h
        simp [h]
      · simp only [List.mem_cons, ih]
        tauto

theorem Addresses.mem_insertAll (as ks : List Nat) (x : Nat) : x ∈ Addresses.insertAll as ks ↔ x ∈ as ∨ x ∈ ks := by
  induction as with
  | nil => simp [Addresses.insertAll]
  | cons a as ih =>
    have : Addresses.insertAll (a :: as) ks = Addresses.insert a (Addresses.insertAll as ks) := rfl
    rw [this, Addresses.mem_insert, ih]
    simp only [List.mem_cons]
    tauto

/-- Adding an address keeps the list rising. -/
theorem Addresses.pairwise_insert (a : Nat) (ks : List Nat) (h : ks.Pairwise fun x y => x < y) :
    (Addresses.insert a ks).Pairwise fun x y => x < y := by
  induction ks with
  | nil => simp [Addresses.insert]
  | cons k ks ih =>
    have hp := List.pairwise_cons.mp h
    unfold Addresses.insert
    split
    · rename_i hlt
      refine List.pairwise_cons.mpr ⟨fun x hx => ?_, h⟩
      rcases List.mem_cons.mp hx with rfl | hx
      · exact hlt
      · exact lt_trans hlt (hp.1 x hx)
    · split
      · exact h
      · refine List.pairwise_cons.mpr ⟨fun x hx => ?_, ih hp.2⟩
        rcases (Addresses.mem_insert a x ks).mp hx with rfl | hx
        · omega
        · exact hp.1 x hx

theorem Addresses.pairwise_insertAll (as ks : List Nat) (h : ks.Pairwise fun x y => x < y) :
    (Addresses.insertAll as ks).Pairwise fun x y => x < y := by
  induction as with
  | nil => exact h
  | cons a as ih => exact Addresses.pairwise_insert a _ ih

theorem spanOf_lt (a : Long) (n x : Nat) (h : x ∈ spanOf a n) : x < 2 ^ 32 := by
  simp only [spanOf, List.mem_map] at h
  obtain ⟨i, -, rfl⟩ := h
  exact (a + BitVec.ofNat 32 i).isLt

end Sys2Proof.Machine
end

