-- ==== Sys2Proof/Laws/State.lean ====
section
/-! SUPPORT. One lemma per field per update of the state, and what the register operations read after each update. -/

namespace Sys2Proof.Machine

-- One theorem after another: elaborating them side by side takes a thread each, and no less time.
set_option Elab.async false

@[simp] theorem State.setD_a (s : State) (n : Fin 8) (v : Long) : (s.setD n v).a = s.a := rfl
@[simp] theorem State.setD_ssp (s : State) (n : Fin 8) (v : Long) : (s.setD n v).ssp = s.ssp := rfl
@[simp] theorem State.setD_usp (s : State) (n : Fin 8) (v : Long) : (s.setD n v).usp = s.usp := rfl
@[simp] theorem State.setD_pc (s : State) (n : Fin 8) (v : Long) : (s.setD n v).pc = s.pc := rfl
@[simp] theorem State.setD_sr (s : State) (n : Fin 8) (v : Long) : (s.setD n v).sr = s.sr := rfl
@[simp] theorem State.setD_vbr (s : State) (n : Fin 8) (v : Long) : (s.setD n v).vbr = s.vbr := rfl
@[simp] theorem State.setD_cacr (s : State) (n : Fin 8) (v : Long) : (s.setD n v).cacr = s.cacr := rfl
@[simp] theorem State.setD_asid (s : State) (n : Fin 8) (v : Long) : (s.setD n v).asid = s.asid := rfl
@[simp] theorem State.setD_acr0 (s : State) (n : Fin 8) (v : Long) : (s.setD n v).acr0 = s.acr0 := rfl
@[simp] theorem State.setD_acr1 (s : State) (n : Fin 8) (v : Long) : (s.setD n v).acr1 = s.acr1 := rfl
@[simp] theorem State.setD_acr2 (s : State) (n : Fin 8) (v : Long) : (s.setD n v).acr2 = s.acr2 := rfl
@[simp] theorem State.setD_acr3 (s : State) (n : Fin 8) (v : Long) : (s.setD n v).acr3 = s.acr3 := rfl
@[simp] theorem State.setD_mmubar (s : State) (n : Fin 8) (v : Long) : (s.setD n v).mmubar = s.mmubar := rfl
@[simp] theorem State.setD_rombar0 (s : State) (n : Fin 8) (v : Long) : (s.setD n v).rombar0 = s.rombar0 := rfl
@[simp] theorem State.setD_rombar1 (s : State) (n : Fin 8) (v : Long) : (s.setD n v).rombar1 = s.rombar1 := rfl
@[simp] theorem State.setD_rambar0 (s : State) (n : Fin 8) (v : Long) : (s.setD n v).rambar0 = s.rambar0 := rfl
@[simp] theorem State.setD_rambar1 (s : State) (n : Fin 8) (v : Long) : (s.setD n v).rambar1 = s.rambar1 := rfl
@[simp] theorem State.setD_mbar (s : State) (n : Fin 8) (v : Long) : (s.setD n v).mbar = s.mbar := rfl
@[simp] theorem State.setD_mem (s : State) (n : Fin 8) (v : Long) : (s.setD n v).mem = s.mem := rfl
@[simp] theorem State.setD_run (s : State) (n : Fin 8) (v : Long) : (s.setD n v).run = s.run := rfl
@[simp] theorem State.setD_inhibit (s : State) (n : Fin 8) (v : Long) : (s.setD n v).inhibit = s.inhibit := rfl
@[simp] theorem State.setD_firstFetch (s : State) (n : Fin 8) (v : Long) : (s.setD n v).firstFetch = s.firstFetch := rfl
@[simp] theorem State.setD_unsynced (s : State) (n : Fin 8) (v : Long) : (s.setD n v).unsynced = s.unsynced := rfl
@[simp] theorem State.setD_irq (s : State) (n : Fin 8) (v : Long) : (s.setD n v).irq = s.irq := rfl
@[simp] theorem State.setD_irq7 (s : State) (n : Fin 8) (v : Long) : (s.setD n v).irq7 = s.irq7 := rfl
@[simp] theorem State.setD_writeFaults (s : State) (n : Fin 8) (v : Long) : (s.setD n v).writeFaults = s.writeFaults := rfl
@[simp] theorem State.setD_deliver (s : State) (n : Fin 8) (v : Long) : (s.setD n v).deliver = s.deliver := rfl
@[simp] theorem State.setD_freeIdx (s : State) (n : Fin 8) (v : Long) : (s.setD n v).freeIdx = s.freeIdx := rfl
@[simp] theorem State.setD_cfg (s : State) (n : Fin 8) (v : Long) : (s.setD n v).cfg = s.cfg := rfl

@[simp] theorem State.setFlags_d (s : State) (f : Flags) : (s.setFlags f).d = s.d := rfl
@[simp] theorem State.setFlags_a (s : State) (f : Flags) : (s.setFlags f).a = s.a := rfl
@[simp] theorem State.setFlags_ssp (s : State) (f : Flags) : (s.setFlags f).ssp = s.ssp := rfl
@[simp] theorem State.setFlags_usp (s : State) (f : Flags) : (s.setFlags f).usp = s.usp := rfl
@[simp] theorem State.setFlags_pc (s : State) (f : Flags) : (s.setFlags f).pc = s.pc := rfl
@[simp] theorem State.setFlags_vbr (s : State) (f : Flags) : (s.setFlags f).vbr = s.vbr := rfl
@[simp] theorem State.setFlags_cacr (s : State) (f : Flags) : (s.setFlags f).cacr = s.cacr := rfl
@[simp] theorem State.setFlags_asid (s : State) (f : Flags) : (s.setFlags f).asid = s.asid := rfl
@[simp] theorem State.setFlags_acr0 (s : State) (f : Flags) : (s.setFlags f).acr0 = s.acr0 := rfl
@[simp] theorem State.setFlags_acr1 (s : State) (f : Flags) : (s.setFlags f).acr1 = s.acr1 := rfl
@[simp] theorem State.setFlags_acr2 (s : State) (f : Flags) : (s.setFlags f).acr2 = s.acr2 := rfl
@[simp] theorem State.setFlags_acr3 (s : State) (f : Flags) : (s.setFlags f).acr3 = s.acr3 := rfl
@[simp] theorem State.setFlags_mmubar (s : State) (f : Flags) : (s.setFlags f).mmubar = s.mmubar := rfl
@[simp] theorem State.setFlags_rombar0 (s : State) (f : Flags) : (s.setFlags f).rombar0 = s.rombar0 := rfl
@[simp] theorem State.setFlags_rombar1 (s : State) (f : Flags) : (s.setFlags f).rombar1 = s.rombar1 := rfl
@[simp] theorem State.setFlags_rambar0 (s : State) (f : Flags) : (s.setFlags f).rambar0 = s.rambar0 := rfl
@[simp] theorem State.setFlags_rambar1 (s : State) (f : Flags) : (s.setFlags f).rambar1 = s.rambar1 := rfl
@[simp] theorem State.setFlags_mbar (s : State) (f : Flags) : (s.setFlags f).mbar = s.mbar := rfl
@[simp] theorem State.setFlags_mem (s : State) (f : Flags) : (s.setFlags f).mem = s.mem := rfl
@[simp] theorem State.setFlags_run (s : State) (f : Flags) : (s.setFlags f).run = s.run := rfl
@[simp] theorem State.setFlags_inhibit (s : State) (f : Flags) : (s.setFlags f).inhibit = s.inhibit := rfl
@[simp] theorem State.setFlags_firstFetch (s : State) (f : Flags) : (s.setFlags f).firstFetch = s.firstFetch := rfl
@[simp] theorem State.setFlags_unsynced (s : State) (f : Flags) : (s.setFlags f).unsynced = s.unsynced := rfl
@[simp] theorem State.setFlags_irq (s : State) (f : Flags) : (s.setFlags f).irq = s.irq := rfl
@[simp] theorem State.setFlags_irq7 (s : State) (f : Flags) : (s.setFlags f).irq7 = s.irq7 := rfl
@[simp] theorem State.setFlags_writeFaults (s : State) (f : Flags) : (s.setFlags f).writeFaults = s.writeFaults := rfl
@[simp] theorem State.setFlags_deliver (s : State) (f : Flags) : (s.setFlags f).deliver = s.deliver := rfl
@[simp] theorem State.setFlags_freeIdx (s : State) (f : Flags) : (s.setFlags f).freeIdx = s.freeIdx := rfl
@[simp] theorem State.setFlags_cfg (s : State) (f : Flags) : (s.setFlags f).cfg = s.cfg := rfl

@[simp] theorem State.loadSr_d (s : State) (v : Word) : (s.loadSr v).d = s.d := rfl
@[simp] theorem State.loadSr_a (s : State) (v : Word) : (s.loadSr v).a = s.a := rfl
@[simp] theorem State.loadSr_ssp (s : State) (v : Word) : (s.loadSr v).ssp = s.ssp := rfl
@[simp] theorem State.loadSr_usp (s : State) (v : Word) : (s.loadSr v).usp = s.usp := rfl
@[simp] theorem State.loadSr_pc (s : State) (v : Word) : (s.loadSr v).pc = s.pc := rfl
@[simp] theorem State.loadSr_vbr (s : State) (v : Word) : (s.loadSr v).vbr = s.vbr := rfl
@[simp] theorem State.loadSr_cacr (s : State) (v : Word) : (s.loadSr v).cacr = s.cacr := rfl
@[simp] theorem State.loadSr_asid (s : State) (v : Word) : (s.loadSr v).asid = s.asid := rfl
@[simp] theorem State.loadSr_acr0 (s : State) (v : Word) : (s.loadSr v).acr0 = s.acr0 := rfl
@[simp] theorem State.loadSr_acr1 (s : State) (v : Word) : (s.loadSr v).acr1 = s.acr1 := rfl
@[simp] theorem State.loadSr_acr2 (s : State) (v : Word) : (s.loadSr v).acr2 = s.acr2 := rfl
@[simp] theorem State.loadSr_acr3 (s : State) (v : Word) : (s.loadSr v).acr3 = s.acr3 := rfl
@[simp] theorem State.loadSr_mmubar (s : State) (v : Word) : (s.loadSr v).mmubar = s.mmubar := rfl
@[simp] theorem State.loadSr_rombar0 (s : State) (v : Word) : (s.loadSr v).rombar0 = s.rombar0 := rfl
@[simp] theorem State.loadSr_rombar1 (s : State) (v : Word) : (s.loadSr v).rombar1 = s.rombar1 := rfl
@[simp] theorem State.loadSr_rambar0 (s : State) (v : Word) : (s.loadSr v).rambar0 = s.rambar0 := rfl
@[simp] theorem State.loadSr_rambar1 (s : State) (v : Word) : (s.loadSr v).rambar1 = s.rambar1 := rfl
@[simp] theorem State.loadSr_mbar (s : State) (v : Word) : (s.loadSr v).mbar = s.mbar := rfl
@[simp] theorem State.loadSr_mem (s : State) (v : Word) : (s.loadSr v).mem = s.mem := rfl
@[simp] theorem State.loadSr_run (s : State) (v : Word) : (s.loadSr v).run = s.run := rfl
@[simp] theorem State.loadSr_inhibit (s : State) (v : Word) : (s.loadSr v).inhibit = s.inhibit := rfl
@[simp] theorem State.loadSr_firstFetch (s : State) (v : Word) : (s.loadSr v).firstFetch = s.firstFetch := rfl
@[simp] theorem State.loadSr_unsynced (s : State) (v : Word) : (s.loadSr v).unsynced = s.unsynced := rfl
@[simp] theorem State.loadSr_irq (s : State) (v : Word) : (s.loadSr v).irq = s.irq := rfl
@[simp] theorem State.loadSr_irq7 (s : State) (v : Word) : (s.loadSr v).irq7 = s.irq7 := rfl
@[simp] theorem State.loadSr_writeFaults (s : State) (v : Word) : (s.loadSr v).writeFaults = s.writeFaults := rfl
@[simp] theorem State.loadSr_deliver (s : State) (v : Word) : (s.loadSr v).deliver = s.deliver := rfl
@[simp] theorem State.loadSr_freeIdx (s : State) (v : Word) : (s.loadSr v).freeIdx = s.freeIdx := rfl
@[simp] theorem State.loadSr_cfg (s : State) (v : Word) : (s.loadSr v).cfg = s.cfg := rfl

@[simp] theorem State.loadCcr_d (s : State) (v : Byte) : (s.loadCcr v).d = s.d := rfl
@[simp] theorem State.loadCcr_a (s : State) (v : Byte) : (s.loadCcr v).a = s.a := rfl
@[simp] theorem State.loadCcr_ssp (s : State) (v : Byte) : (s.loadCcr v).ssp = s.ssp := rfl
@[simp] theorem State.loadCcr_usp (s : State) (v : Byte) : (s.loadCcr v).usp = s.usp := rfl
@[simp] theorem State.loadCcr_pc (s : State) (v : Byte) : (s.loadCcr v).pc = s.pc := rfl
@[simp] theorem State.loadCcr_vbr (s : State) (v : Byte) : (s.loadCcr v).vbr = s.vbr := rfl
@[simp] theorem State.loadCcr_cacr (s : State) (v : Byte) : (s.loadCcr v).cacr = s.cacr := rfl
@[simp] theorem State.loadCcr_asid (s : State) (v : Byte) : (s.loadCcr v).asid = s.asid := rfl
@[simp] theorem State.loadCcr_acr0 (s : State) (v : Byte) : (s.loadCcr v).acr0 = s.acr0 := rfl
@[simp] theorem State.loadCcr_acr1 (s : State) (v : Byte) : (s.loadCcr v).acr1 = s.acr1 := rfl
@[simp] theorem State.loadCcr_acr2 (s : State) (v : Byte) : (s.loadCcr v).acr2 = s.acr2 := rfl
@[simp] theorem State.loadCcr_acr3 (s : State) (v : Byte) : (s.loadCcr v).acr3 = s.acr3 := rfl
@[simp] theorem State.loadCcr_mmubar (s : State) (v : Byte) : (s.loadCcr v).mmubar = s.mmubar := rfl
@[simp] theorem State.loadCcr_rombar0 (s : State) (v : Byte) : (s.loadCcr v).rombar0 = s.rombar0 := rfl
@[simp] theorem State.loadCcr_rombar1 (s : State) (v : Byte) : (s.loadCcr v).rombar1 = s.rombar1 := rfl
@[simp] theorem State.loadCcr_rambar0 (s : State) (v : Byte) : (s.loadCcr v).rambar0 = s.rambar0 := rfl
@[simp] theorem State.loadCcr_rambar1 (s : State) (v : Byte) : (s.loadCcr v).rambar1 = s.rambar1 := rfl
@[simp] theorem State.loadCcr_mbar (s : State) (v : Byte) : (s.loadCcr v).mbar = s.mbar := rfl
@[simp] theorem State.loadCcr_mem (s : State) (v : Byte) : (s.loadCcr v).mem = s.mem := rfl
@[simp] theorem State.loadCcr_run (s : State) (v : Byte) : (s.loadCcr v).run = s.run := rfl
@[simp] theorem State.loadCcr_inhibit (s : State) (v : Byte) : (s.loadCcr v).inhibit = s.inhibit := rfl
@[simp] theorem State.loadCcr_firstFetch (s : State) (v : Byte) : (s.loadCcr v).firstFetch = s.firstFetch := rfl
@[simp] theorem State.loadCcr_unsynced (s : State) (v : Byte) : (s.loadCcr v).unsynced = s.unsynced := rfl
@[simp] theorem State.loadCcr_irq (s : State) (v : Byte) : (s.loadCcr v).irq = s.irq := rfl
@[simp] theorem State.loadCcr_irq7 (s : State) (v : Byte) : (s.loadCcr v).irq7 = s.irq7 := rfl
@[simp] theorem State.loadCcr_writeFaults (s : State) (v : Byte) : (s.loadCcr v).writeFaults = s.writeFaults := rfl
@[simp] theorem State.loadCcr_deliver (s : State) (v : Byte) : (s.loadCcr v).deliver = s.deliver := rfl
@[simp] theorem State.loadCcr_freeIdx (s : State) (v : Byte) : (s.loadCcr v).freeIdx = s.freeIdx := rfl
@[simp] theorem State.loadCcr_cfg (s : State) (v : Byte) : (s.loadCcr v).cfg = s.cfg := rfl

@[simp] theorem State.store_d (s : State) (a : Long) (sz : Size) (v : Long) : (s.store a sz v).d = s.d := rfl
@[simp] theorem State.store_a (s : State) (a : Long) (sz : Size) (v : Long) : (s.store a sz v).a = s.a := rfl
@[simp] theorem State.store_ssp (s : State) (a : Long) (sz : Size) (v : Long) : (s.store a sz v).ssp = s.ssp := rfl
@[simp] theorem State.store_usp (s : State) (a : Long) (sz : Size) (v : Long) : (s.store a sz v).usp = s.usp := rfl
@[simp] theorem State.store_pc (s : State) (a : Long) (sz : Size) (v : Long) : (s.store a sz v).pc = s.pc := rfl
@[simp] theorem State.store_sr (s : State) (a : Long) (sz : Size) (v : Long) : (s.store a sz v).sr = s.sr := rfl
@[simp] theorem State.store_vbr (s : State) (a : Long) (sz : Size) (v : Long) : (s.store a sz v).vbr = s.vbr := rfl
@[simp] theorem State.store_cacr (s : State) (a : Long) (sz : Size) (v : Long) : (s.store a sz v).cacr = s.cacr := rfl
@[simp] theorem State.store_asid (s : State) (a : Long) (sz : Size) (v : Long) : (s.store a sz v).asid = s.asid := rfl
@[simp] theorem State.store_acr0 (s : State) (a : Long) (sz : Size) (v : Long) : (s.store a sz v).acr0 = s.acr0 := rfl
@[simp] theorem State.store_acr1 (s : State) (a : Long) (sz : Size) (v : Long) : (s.store a sz v).acr1 = s.acr1 := rfl
@[simp] theorem State.store_acr2 (s : State) (a : Long) (sz : Size) (v : Long) : (s.store a sz v).acr2 = s.acr2 := rfl
@[simp] theorem State.store_acr3 (s : State) (a : Long) (sz : Size) (v : Long) : (s.store a sz v).acr3 = s.acr3 := rfl
@[simp] theorem State.store_mmubar (s : State) (a : Long) (sz : Size) (v : Long) : (s.store a sz v).mmubar = s.mmubar := rfl
@[simp] theorem State.store_rombar0 (s : State) (a : Long) (sz : Size) (v : Long) : (s.store a sz v).rombar0 = s.rombar0 := rfl
@[simp] theorem State.store_rombar1 (s : State) (a : Long) (sz : Size) (v : Long) : (s.store a sz v).rombar1 = s.rombar1 := rfl
@[simp] theorem State.store_rambar0 (s : State) (a : Long) (sz : Size) (v : Long) : (s.store a sz v).rambar0 = s.rambar0 := rfl
@[simp] theorem State.store_rambar1 (s : State) (a : Long) (sz : Size) (v : Long) : (s.store a sz v).rambar1 = s.rambar1 := rfl
@[simp] theorem State.store_mbar (s : State) (a : Long) (sz : Size) (v : Long) : (s.store a sz v).mbar = s.mbar := rfl
@[simp] theorem State.store_run (s : State) (a : Long) (sz : Size) (v : Long) : (s.store a sz v).run = s.run := rfl
@[simp] theorem State.store_inhibit (s : State) (a : Long) (sz : Size) (v : Long) : (s.store a sz v).inhibit = s.inhibit := rfl
@[simp] theorem State.store_firstFetch (s : State) (a : Long) (sz : Size) (v : Long) : (s.store a sz v).firstFetch = s.firstFetch := rfl
@[simp] theorem State.store_irq (s : State) (a : Long) (sz : Size) (v : Long) : (s.store a sz v).irq = s.irq := rfl
@[simp] theorem State.store_irq7 (s : State) (a : Long) (sz : Size) (v : Long) : (s.store a sz v).irq7 = s.irq7 := rfl
@[simp] theorem State.store_writeFaults (s : State) (a : Long) (sz : Size) (v : Long) : (s.store a sz v).writeFaults = s.writeFaults := rfl
@[simp] theorem State.store_deliver (s : State) (a : Long) (sz : Size) (v : Long) : (s.store a sz v).deliver = s.deliver := rfl
@[simp] theorem State.store_freeIdx (s : State) (a : Long) (sz : Size) (v : Long) : (s.store a sz v).freeIdx = s.freeIdx := rfl
@[simp] theorem State.store_cfg (s : State) (a : Long) (sz : Size) (v : Long) : (s.store a sz v).cfg = s.cfg := rfl

@[simp] theorem State.synced_d (s : State) : s.synced.d = s.d := rfl
@[simp] theorem State.synced_a (s : State) : s.synced.a = s.a := rfl
@[simp] theorem State.synced_ssp (s : State) : s.synced.ssp = s.ssp := rfl
@[simp] theorem State.synced_usp (s : State) : s.synced.usp = s.usp := rfl
@[simp] theorem State.synced_pc (s : State) : s.synced.pc = s.pc := rfl
@[simp] theorem State.synced_sr (s : State) : s.synced.sr = s.sr := rfl
@[simp] theorem State.synced_vbr (s : State) : s.synced.vbr = s.vbr := rfl
@[simp] theorem State.synced_cacr (s : State) : s.synced.cacr = s.cacr := rfl
@[simp] theorem State.synced_asid (s : State) : s.synced.asid = s.asid := rfl
@[simp] theorem State.synced_acr0 (s : State) : s.synced.acr0 = s.acr0 := rfl
@[simp] theorem State.synced_acr1 (s : State) : s.synced.acr1 = s.acr1 := rfl
@[simp] theorem State.synced_acr2 (s : State) : s.synced.acr2 = s.acr2 := rfl
@[simp] theorem State.synced_acr3 (s : State) : s.synced.acr3 = s.acr3 := rfl
@[simp] theorem State.synced_mmubar (s : State) : s.synced.mmubar = s.mmubar := rfl
@[simp] theorem State.synced_rombar0 (s : State) : s.synced.rombar0 = s.rombar0 := rfl
@[simp] theorem State.synced_rombar1 (s : State) : s.synced.rombar1 = s.rombar1 := rfl
@[simp] theorem State.synced_rambar0 (s : State) : s.synced.rambar0 = s.rambar0 := rfl
@[simp] theorem State.synced_rambar1 (s : State) : s.synced.rambar1 = s.rambar1 := rfl
@[simp] theorem State.synced_mbar (s : State) : s.synced.mbar = s.mbar := rfl
@[simp] theorem State.synced_mem (s : State) : s.synced.mem = s.mem := rfl
@[simp] theorem State.synced_run (s : State) : s.synced.run = s.run := rfl
@[simp] theorem State.synced_inhibit (s : State) : s.synced.inhibit = s.inhibit := rfl
@[simp] theorem State.synced_firstFetch (s : State) : s.synced.firstFetch = s.firstFetch := rfl
@[simp] theorem State.synced_irq (s : State) : s.synced.irq = s.irq := rfl
@[simp] theorem State.synced_irq7 (s : State) : s.synced.irq7 = s.irq7 := rfl
@[simp] theorem State.synced_writeFaults (s : State) : s.synced.writeFaults = s.writeFaults := rfl
@[simp] theorem State.synced_deliver (s : State) : s.synced.deliver = s.deliver := rfl
@[simp] theorem State.synced_freeIdx (s : State) : s.synced.freeIdx = s.freeIdx := rfl
@[simp] theorem State.synced_cfg (s : State) : s.synced.cfg = s.cfg := rfl

@[simp] theorem State.advanced_d (s : State) (k : Nat) : (s.advanced k).d = s.d := rfl
@[simp] theorem State.advanced_a (s : State) (k : Nat) : (s.advanced k).a = s.a := rfl
@[simp] theorem State.advanced_ssp (s : State) (k : Nat) : (s.advanced k).ssp = s.ssp := rfl
@[simp] theorem State.advanced_usp (s : State) (k : Nat) : (s.advanced k).usp = s.usp := rfl
@[simp] theorem State.advanced_sr (s : State) (k : Nat) : (s.advanced k).sr = s.sr := rfl
@[simp] theorem State.advanced_vbr (s : State) (k : Nat) : (s.advanced k).vbr = s.vbr := rfl
@[simp] theorem State.advanced_cacr (s : State) (k : Nat) : (s.advanced k).cacr = s.cacr := rfl
@[simp] theorem State.advanced_asid (s : State) (k : Nat) : (s.advanced k).asid = s.asid := rfl
@[simp] theorem State.advanced_acr0 (s : State) (k : Nat) : (s.advanced k).acr0 = s.acr0 := rfl
@[simp] theorem State.advanced_acr1 (s : State) (k : Nat) : (s.advanced k).acr1 = s.acr1 := rfl
@[simp] theorem State.advanced_acr2 (s : State) (k : Nat) : (s.advanced k).acr2 = s.acr2 := rfl
@[simp] theorem State.advanced_acr3 (s : State) (k : Nat) : (s.advanced k).acr3 = s.acr3 := rfl
@[simp] theorem State.advanced_mmubar (s : State) (k : Nat) : (s.advanced k).mmubar = s.mmubar := rfl
@[simp] theorem State.advanced_rombar0 (s : State) (k : Nat) : (s.advanced k).rombar0 = s.rombar0 := rfl
@[simp] theorem State.advanced_rombar1 (s : State) (k : Nat) : (s.advanced k).rombar1 = s.rombar1 := rfl
@[simp] theorem State.advanced_rambar0 (s : State) (k : Nat) : (s.advanced k).rambar0 = s.rambar0 := rfl
@[simp] theorem State.advanced_rambar1 (s : State) (k : Nat) : (s.advanced k).rambar1 = s.rambar1 := rfl
@[simp] theorem State.advanced_mbar (s : State) (k : Nat) : (s.advanced k).mbar = s.mbar := rfl
@[simp] theorem State.advanced_mem (s : State) (k : Nat) : (s.advanced k).mem = s.mem := rfl
@[simp] theorem State.advanced_run (s : State) (k : Nat) : (s.advanced k).run = s.run := rfl
@[simp] theorem State.advanced_inhibit (s : State) (k : Nat) : (s.advanced k).inhibit = s.inhibit := rfl
@[simp] theorem State.advanced_firstFetch (s : State) (k : Nat) : (s.advanced k).firstFetch = s.firstFetch := rfl
@[simp] theorem State.advanced_unsynced (s : State) (k : Nat) : (s.advanced k).unsynced = s.unsynced := rfl
@[simp] theorem State.advanced_irq (s : State) (k : Nat) : (s.advanced k).irq = s.irq := rfl
@[simp] theorem State.advanced_irq7 (s : State) (k : Nat) : (s.advanced k).irq7 = s.irq7 := rfl
@[simp] theorem State.advanced_writeFaults (s : State) (k : Nat) : (s.advanced k).writeFaults = s.writeFaults := rfl
@[simp] theorem State.advanced_deliver (s : State) (k : Nat) : (s.advanced k).deliver = s.deliver := rfl
@[simp] theorem State.advanced_freeIdx (s : State) (k : Nat) : (s.advanced k).freeIdx = s.freeIdx := rfl
@[simp] theorem State.advanced_cfg (s : State) (k : Nat) : (s.advanced k).cfg = s.cfg := rfl

@[simp] theorem State.faultOnFault_d (s : State) (x y : Byte) : (s.faultOnFault x y).d = s.d := rfl
@[simp] theorem State.faultOnFault_a (s : State) (x y : Byte) : (s.faultOnFault x y).a = s.a := rfl
@[simp] theorem State.faultOnFault_ssp (s : State) (x y : Byte) : (s.faultOnFault x y).ssp = s.ssp := rfl
@[simp] theorem State.faultOnFault_usp (s : State) (x y : Byte) : (s.faultOnFault x y).usp = s.usp := rfl
@[simp] theorem State.faultOnFault_pc (s : State) (x y : Byte) : (s.faultOnFault x y).pc = s.pc := rfl
@[simp] theorem State.faultOnFault_sr (s : State) (x y : Byte) : (s.faultOnFault x y).sr = s.sr := rfl
@[simp] theorem State.faultOnFault_vbr (s : State) (x y : Byte) : (s.faultOnFault x y).vbr = s.vbr := rfl
@[simp] theorem State.faultOnFault_cacr (s : State) (x y : Byte) : (s.faultOnFault x y).cacr = s.cacr := rfl
@[simp] theorem State.faultOnFault_asid (s : State) (x y : Byte) : (s.faultOnFault x y).asid = s.asid := rfl
@[simp] theorem State.faultOnFault_acr0 (s : State) (x y : Byte) : (s.faultOnFault x y).acr0 = s.acr0 := rfl
@[simp] theorem State.faultOnFault_acr1 (s : State) (x y : Byte) : (s.faultOnFault x y).acr1 = s.acr1 := rfl
@[simp] theorem State.faultOnFault_acr2 (s : State) (x y : Byte) : (s.faultOnFault x y).acr2 = s.acr2 := rfl
@[simp] theorem State.faultOnFault_acr3 (s : State) (x y : Byte) : (s.faultOnFault x y).acr3 = s.acr3 := rfl
@[simp] theorem State.faultOnFault_mmubar (s : State) (x y : Byte) : (s.faultOnFault x y).mmubar = s.mmubar := rfl
@[simp] theorem State.faultOnFault_rombar0 (s : State) (x y : Byte) : (s.faultOnFault x y).rombar0 = s.rombar0 := rfl
@[simp] theorem State.faultOnFault_rombar1 (s : State) (x y : Byte) : (s.faultOnFault x y).rombar1 = s.rombar1 := rfl
@[simp] theorem State.faultOnFault_rambar0 (s : State) (x y : Byte) : (s.faultOnFault x y).rambar0 = s.rambar0 := rfl
@[simp] theorem State.faultOnFault_rambar1 (s : State) (x y : Byte) : (s.faultOnFault x y).rambar1 = s.rambar1 := rfl
@[simp] theorem State.faultOnFault_mbar (s : State) (x y : Byte) : (s.faultOnFault x y).mbar = s.mbar := rfl
@[simp] theorem State.faultOnFault_mem (s : State) (x y : Byte) : (s.faultOnFault x y).mem = s.mem := rfl
@[simp] theorem State.faultOnFault_inhibit (s : State) (x y : Byte) : (s.faultOnFault x y).inhibit = s.inhibit := rfl
@[simp] theorem State.faultOnFault_firstFetch (s : State) (x y : Byte) : (s.faultOnFault x y).firstFetch = s.firstFetch := rfl
@[simp] theorem State.faultOnFault_unsynced (s : State) (x y : Byte) : (s.faultOnFault x y).unsynced = s.unsynced := rfl
@[simp] theorem State.faultOnFault_irq (s : State) (x y : Byte) : (s.faultOnFault x y).irq = s.irq := rfl
@[simp] theorem State.faultOnFault_irq7 (s : State) (x y : Byte) : (s.faultOnFault x y).irq7 = s.irq7 := rfl
@[simp] theorem State.faultOnFault_writeFaults (s : State) (x y : Byte) : (s.faultOnFault x y).writeFaults = s.writeFaults := rfl
@[simp] theorem State.faultOnFault_deliver (s : State) (x y : Byte) : (s.faultOnFault x y).deliver = s.deliver := rfl
@[simp] theorem State.faultOnFault_freeIdx (s : State) (x y : Byte) : (s.faultOnFault x y).freeIdx = s.freeIdx := rfl
@[simp] theorem State.faultOnFault_cfg (s : State) (x y : Byte) : (s.faultOnFault x y).cfg = s.cfg := rfl

@[simp] theorem State.passBoundary_d (s : State) : s.passBoundary.d = s.d := rfl
@[simp] theorem State.passBoundary_a (s : State) : s.passBoundary.a = s.a := rfl
@[simp] theorem State.passBoundary_ssp (s : State) : s.passBoundary.ssp = s.ssp := rfl
@[simp] theorem State.passBoundary_usp (s : State) : s.passBoundary.usp = s.usp := rfl
@[simp] theorem State.passBoundary_pc (s : State) : s.passBoundary.pc = s.pc := rfl
@[simp] theorem State.passBoundary_sr (s : State) : s.passBoundary.sr = s.sr := rfl
@[simp] theorem State.passBoundary_vbr (s : State) : s.passBoundary.vbr = s.vbr := rfl
@[simp] theorem State.passBoundary_cacr (s : State) : s.passBoundary.cacr = s.cacr := rfl
@[simp] theorem State.passBoundary_asid (s : State) : s.passBoundary.asid = s.asid := rfl
@[simp] theorem State.passBoundary_acr0 (s : State) : s.passBoundary.acr0 = s.acr0 := rfl
@[simp] theorem State.passBoundary_acr1 (s : State) : s.passBoundary.acr1 = s.acr1 := rfl
@[simp] theorem State.passBoundary_acr2 (s : State) : s.passBoundary.acr2 = s.acr2 := rfl
@[simp] theorem State.passBoundary_acr3 (s : State) : s.passBoundary.acr3 = s.acr3 := rfl
@[simp] theorem State.passBoundary_mmubar (s : State) : s.passBoundary.mmubar = s.mmubar := rfl
@[simp] theorem State.passBoundary_rombar0 (s : State) : s.passBoundary.rombar0 = s.rombar0 := rfl
@[simp] theorem State.passBoundary_rombar1 (s : State) : s.passBoundary.rombar1 = s.rombar1 := rfl
@[simp] theorem State.passBoundary_rambar0 (s : State) : s.passBoundary.rambar0 = s.rambar0 := rfl
@[simp] theorem State.passBoundary_rambar1 (s : State) : s.passBoundary.rambar1 = s.rambar1 := rfl
@[simp] theorem State.passBoundary_mbar (s : State) : s.passBoundary.mbar = s.mbar := rfl
@[simp] theorem State.passBoundary_mem (s : State) : s.passBoundary.mem = s.mem := rfl
@[simp] theorem State.passBoundary_run (s : State) : s.passBoundary.run = s.run := rfl
@[simp] theorem State.passBoundary_inhibit (s : State) : s.passBoundary.inhibit = s.inhibit := rfl
@[simp] theorem State.passBoundary_firstFetch (s : State) : s.passBoundary.firstFetch = s.firstFetch := rfl
@[simp] theorem State.passBoundary_unsynced (s : State) : s.passBoundary.unsynced = s.unsynced := rfl
@[simp] theorem State.passBoundary_irq7 (s : State) : s.passBoundary.irq7 = s.irq7 := rfl
@[simp] theorem State.passBoundary_writeFaults (s : State) : s.passBoundary.writeFaults = s.writeFaults := rfl
@[simp] theorem State.passBoundary_deliver (s : State) : s.passBoundary.deliver = s.deliver := rfl
@[simp] theorem State.passBoundary_freeIdx (s : State) : s.passBoundary.freeIdx = s.freeIdx := rfl
@[simp] theorem State.passBoundary_cfg (s : State) : s.passBoundary.cfg = s.cfg := rfl

@[simp] theorem State.sampled_d (s : State) : s.sampled.d = s.d := rfl
@[simp] theorem State.sampled_a (s : State) : s.sampled.a = s.a := rfl
@[simp] theorem State.sampled_ssp (s : State) : s.sampled.ssp = s.ssp := rfl
@[simp] theorem State.sampled_usp (s : State) : s.sampled.usp = s.usp := rfl
@[simp] theorem State.sampled_pc (s : State) : s.sampled.pc = s.pc := rfl
@[simp] theorem State.sampled_sr (s : State) : s.sampled.sr = s.sr := rfl
@[simp] theorem State.sampled_vbr (s : State) : s.sampled.vbr = s.vbr := rfl
@[simp] theorem State.sampled_cacr (s : State) : s.sampled.cacr = s.cacr := rfl
@[simp] theorem State.sampled_asid (s : State) : s.sampled.asid = s.asid := rfl
@[simp] theorem State.sampled_acr0 (s : State) : s.sampled.acr0 = s.acr0 := rfl
@[simp] theorem State.sampled_acr1 (s : State) : s.sampled.acr1 = s.acr1 := rfl
@[simp] theorem State.sampled_acr2 (s : State) : s.sampled.acr2 = s.acr2 := rfl
@[simp] theorem State.sampled_acr3 (s : State) : s.sampled.acr3 = s.acr3 := rfl
@[simp] theorem State.sampled_mmubar (s : State) : s.sampled.mmubar = s.mmubar := rfl
@[simp] theorem State.sampled_rombar0 (s : State) : s.sampled.rombar0 = s.rombar0 := rfl
@[simp] theorem State.sampled_rombar1 (s : State) : s.sampled.rombar1 = s.rombar1 := rfl
@[simp] theorem State.sampled_rambar0 (s : State) : s.sampled.rambar0 = s.rambar0 := rfl
@[simp] theorem State.sampled_rambar1 (s : State) : s.sampled.rambar1 = s.rambar1 := rfl
@[simp] theorem State.sampled_mbar (s : State) : s.sampled.mbar = s.mbar := rfl
@[simp] theorem State.sampled_mem (s : State) : s.sampled.mem = s.mem := rfl
@[simp] theorem State.sampled_run (s : State) : s.sampled.run = s.run := rfl
@[simp] theorem State.sampled_inhibit (s : State) : s.sampled.inhibit = s.inhibit := rfl
@[simp] theorem State.sampled_firstFetch (s : State) : s.sampled.firstFetch = s.firstFetch := rfl
@[simp] theorem State.sampled_unsynced (s : State) : s.sampled.unsynced = s.unsynced := rfl
@[simp] theorem State.sampled_writeFaults (s : State) : s.sampled.writeFaults = s.writeFaults := rfl
@[simp] theorem State.sampled_deliver (s : State) : s.sampled.deliver = s.deliver := rfl
@[simp] theorem State.sampled_freeIdx (s : State) : s.sampled.freeIdx = s.freeIdx := rfl
@[simp] theorem State.sampled_cfg (s : State) : s.sampled.cfg = s.cfg := rfl

@[simp] theorem State.setSp_d (s : State) (v : Long) : (s.setSp v).d = s.d := by
  unfold State.setSp; split <;> rfl
@[simp] theorem State.setSp_a (s : State) (v : Long) : (s.setSp v).a = s.a := by
  unfold State.setSp; split <;> rfl
@[simp] theorem State.setSp_pc (s : State) (v : Long) : (s.setSp v).pc = s.pc := by
  unfold State.setSp; split <;> rfl
@[simp] theorem State.setSp_sr (s : State) (v : Long) : (s.setSp v).sr = s.sr := by
  unfold State.setSp; split <;> rfl
@[simp] theorem State.setSp_vbr (s : State) (v : Long) : (s.setSp v).vbr = s.vbr := by
  unfold State.setSp; split <;> rfl
@[simp] theorem State.setSp_cacr (s : State) (v : Long) : (s.setSp v).cacr = s.cacr := by
  unfold State.setSp; split <;> rfl
@[simp] theorem State.setSp_asid (s : State) (v : Long) : (s.setSp v).asid = s.asid := by
  unfold State.setSp; split <;> rfl
@[simp] theorem State.setSp_acr0 (s : State) (v : Long) : (s.setSp v).acr0 = s.acr0 := by
  unfold State.setSp; split <;> rfl
@[simp] theorem State.setSp_acr1 (s : State) (v : Long) : (s.setSp v).acr1 = s.acr1 := by
  unfold State.setSp; split <;> rfl
@[simp] theorem State.setSp_acr2 (s : State) (v : Long) : (s.setSp v).acr2 = s.acr2 := by
  unfold State.setSp; split <;> rfl
@[simp] theorem State.setSp_acr3 (s : State) (v : Long) : (s.setSp v).acr3 = s.acr3 := by
  unfold State.setSp; split <;> rfl
@[simp] theorem State.setSp_mmubar (s : State) (v : Long) : (s.setSp v).mmubar = s.mmubar := by
  unfold State.setSp; split <;> rfl
@[simp] theorem State.setSp_rombar0 (s : State) (v : Long) : (s.setSp v).rombar0 = s.rombar0 := by
  unfold State.setSp; split <;> rfl
@[simp] theorem State.setSp_rombar1 (s : State) (v : Long) : (s.setSp v).rombar1 = s.rombar1 := by
  unfold State.setSp; split <;> rfl
@[simp] theorem State.setSp_rambar0 (s : State) (v : Long) : (s.setSp v).rambar0 = s.rambar0 := by
  unfold State.setSp; split <;> rfl
@[simp] theorem State.setSp_rambar1 (s : State) (v : Long) : (s.setSp v).rambar1 = s.rambar1 := by
  unfold State.setSp; split <;> rfl
@[simp] theorem State.setSp_mbar (s : State) (v : Long) : (s.setSp v).mbar = s.mbar := by
  unfold State.setSp; split <;> rfl
@[simp] theorem State.setSp_mem (s : State) (v : Long) : (s.setSp v).mem = s.mem := by
  unfold State.setSp; split <;> rfl
@[simp] theorem State.setSp_run (s : State) (v : Long) : (s.setSp v).run = s.run := by
  unfold State.setSp; split <;> rfl
@[simp] theorem State.setSp_inhibit (s : State) (v : Long) : (s.setSp v).inhibit = s.inhibit := by
  unfold State.setSp; split <;> rfl
@[simp] theorem State.setSp_firstFetch (s : State) (v : Long) : (s.setSp v).firstFetch = s.firstFetch := by
  unfold State.setSp; split <;> rfl
@[simp] theorem State.setSp_unsynced (s : State) (v : Long) : (s.setSp v).unsynced = s.unsynced := by
  unfold State.setSp; split <;> rfl
@[simp] theorem State.setSp_irq (s : State) (v : Long) : (s.setSp v).irq = s.irq := by
  unfold State.setSp; split <;> rfl
@[simp] theorem State.setSp_irq7 (s : State) (v : Long) : (s.setSp v).irq7 = s.irq7 := by
  unfold State.setSp; split <;> rfl
@[simp] theorem State.setSp_writeFaults (s : State) (v : Long) : (s.setSp v).writeFaults = s.writeFaults := by
  unfold State.setSp; split <;> rfl
@[simp] theorem State.setSp_deliver (s : State) (v : Long) : (s.setSp v).deliver = s.deliver := by
  unfold State.setSp; split <;> rfl
@[simp] theorem State.setSp_freeIdx (s : State) (v : Long) : (s.setSp v).freeIdx = s.freeIdx := by
  unfold State.setSp; split <;> rfl
@[simp] theorem State.setSp_cfg (s : State) (v : Long) : (s.setSp v).cfg = s.cfg := by
  unfold State.setSp; split <;> rfl

@[simp] theorem State.setA_d (s : State) (n : Fin 8) (v : Long) : (s.setA n v).d = s.d := by
  unfold State.setA; split
  · rfl
  · simp
@[simp] theorem State.setA_pc (s : State) (n : Fin 8) (v : Long) : (s.setA n v).pc = s.pc := by
  unfold State.setA; split
  · rfl
  · simp
@[simp] theorem State.setA_sr (s : State) (n : Fin 8) (v : Long) : (s.setA n v).sr = s.sr := by
  unfold State.setA; split
  · rfl
  · simp
@[simp] theorem State.setA_vbr (s : State) (n : Fin 8) (v : Long) : (s.setA n v).vbr = s.vbr := by
  unfold State.setA; split
  · rfl
  · simp
@[simp] theorem State.setA_cacr (s : State) (n : Fin 8) (v : Long) : (s.setA n v).cacr = s.cacr := by
  unfold State.setA; split
  · rfl
  · simp
@[simp] theorem State.setA_asid (s : State) (n : Fin 8) (v : Long) : (s.setA n v).asid = s.asid := by
  unfold State.setA; split
  · rfl
  · simp
@[simp] theorem State.setA_acr0 (s : State) (n : Fin 8) (v : Long) : (s.setA n v).acr0 = s.acr0 := by
  unfold State.setA; split
  · rfl
  · simp
@[simp] theorem State.setA_acr1 (s : State) (n : Fin 8) (v : Long) : (s.setA n v).acr1 = s.acr1 := by
  unfold State.setA; split
  · rfl
  · simp
@[simp] theorem State.setA_acr2 (s : State) (n : Fin 8) (v : Long) : (s.setA n v).acr2 = s.acr2 := by
  unfold State.setA; split
  · rfl
  · simp
@[simp] theorem State.setA_acr3 (s : State) (n : Fin 8) (v : Long) : (s.setA n v).acr3 = s.acr3 := by
  unfold State.setA; split
  · rfl
  · simp
@[simp] theorem State.setA_mmubar (s : State) (n : Fin 8) (v : Long) : (s.setA n v).mmubar = s.mmubar := by
  unfold State.setA; split
  · rfl
  · simp
@[simp] theorem State.setA_rombar0 (s : State) (n : Fin 8) (v : Long) : (s.setA n v).rombar0 = s.rombar0 := by
  unfold State.setA; split
  · rfl
  · simp
@[simp] theorem State.setA_rombar1 (s : State) (n : Fin 8) (v : Long) : (s.setA n v).rombar1 = s.rombar1 := by
  unfold State.setA; split
  · rfl
  · simp
@[simp] theorem State.setA_rambar0 (s : State) (n : Fin 8) (v : Long) : (s.setA n v).rambar0 = s.rambar0 := by
  unfold State.setA; split
  · rfl
  · simp
@[simp] theorem State.setA_rambar1 (s : State) (n : Fin 8) (v : Long) : (s.setA n v).rambar1 = s.rambar1 := by
  unfold State.setA; split
  · rfl
  · simp
@[simp] theorem State.setA_mbar (s : State) (n : Fin 8) (v : Long) : (s.setA n v).mbar = s.mbar := by
  unfold State.setA; split
  · rfl
  · simp
@[simp] theorem State.setA_mem (s : State) (n : Fin 8) (v : Long) : (s.setA n v).mem = s.mem := by
  unfold State.setA; split
  · rfl
  · simp
@[simp] theorem State.setA_run (s : State) (n : Fin 8) (v : Long) : (s.setA n v).run = s.run := by
  unfold State.setA; split
  · rfl
  · simp
@[simp] theorem State.setA_inhibit (s : State) (n : Fin 8) (v : Long) : (s.setA n v).inhibit = s.inhibit := by
  unfold State.setA; split
  · rfl
  · simp
@[simp] theorem State.setA_firstFetch (s : State) (n : Fin 8) (v : Long) : (s.setA n v).firstFetch = s.firstFetch := by
  unfold State.setA; split
  · rfl
  · simp
@[simp] theorem State.setA_unsynced (s : State) (n : Fin 8) (v : Long) : (s.setA n v).unsynced = s.unsynced := by
  unfold State.setA; split
  · rfl
  · simp
@[simp] theorem State.setA_irq (s : State) (n : Fin 8) (v : Long) : (s.setA n v).irq = s.irq := by
  unfold State.setA; split
  · rfl
  · simp
@[simp] theorem State.setA_irq7 (s : State) (n : Fin 8) (v : Long) : (s.setA n v).irq7 = s.irq7 := by
  unfold State.setA; split
  · rfl
  · simp
@[simp] theorem State.setA_writeFaults (s : State) (n : Fin 8) (v : Long) : (s.setA n v).writeFaults = s.writeFaults := by
  unfold State.setA; split
  · rfl
  · simp
@[simp] theorem State.setA_deliver (s : State) (n : Fin 8) (v : Long) : (s.setA n v).deliver = s.deliver := by
  unfold State.setA; split
  · rfl
  · simp
@[simp] theorem State.setA_freeIdx (s : State) (n : Fin 8) (v : Long) : (s.setA n v).freeIdx = s.freeIdx := by
  unfold State.setA; split
  · rfl
  · simp
@[simp] theorem State.setA_cfg (s : State) (n : Fin 8) (v : Long) : (s.setA n v).cfg = s.cfg := by
  unfold State.setA; split
  · rfl
  · simp

/-! The changed field of each update. -/

theorem State.setD_d (s : State) (n : Fin 8) (v : Long) : (s.setD n v).d = s.d.set n v := rfl
@[simp] theorem State.setFlags_sr (s : State) (f : Flags) : (s.setFlags f).sr = f.into s.sr := rfl
@[simp] theorem State.loadSr_sr (s : State) (v : Word) : (s.loadSr v).sr = v &&& srMask s.cfg := rfl
@[simp] theorem State.store_mem (s : State) (a : Long) (sz : Size) (v : Long) :
    (s.store a sz v).mem = storeOf s.mem a sz v := rfl
@[simp] theorem State.synced_unsynced (s : State) : s.synced.unsynced = [] := rfl
@[simp] theorem State.advanced_pc (s : State) (k : Nat) :
    (s.advanced k).pc = s.pc + 2#32 * BitVec.ofNat 32 k := rfl
@[simp] theorem State.faultOnFault_run (s : State) (x y : Byte) :
    (s.faultOnFault x y).run = .halted (.faultOnFault x y) := rfl
@[simp] theorem State.passBoundary_irq (s : State) : s.passBoundary.irq = s.irq.tail := rfl
@[simp] theorem State.sampled_irq (s : State) : s.sampled.irq = s.irq.tail := rfl

/-! The active stack pointer and the general registers. -/

theorem State.dualSp_eq (s t : State) (hc : t.cfg = s.cfg) (hk : t.cacr = s.cacr) : t.dualSp = s.dualSp := by
  simp [State.dualSp, hc, hk]

theorem State.supervisor_eq (s t : State) (h : t.sr = s.sr) : t.supervisor = s.supervisor := by
  simp [State.supervisor, h]

theorem Flags.into_getLsbD (f : Flags) (w : Word) (i : Nat) (h : 5 ≤ i) : (f.into w).getLsbD i = w.getLsbD i := by
  have h' : ¬ i < 5 := by omega
  simp only [Flags.into, BitVec.getLsbD_append, BitVec.getLsbD_extractLsb', h']
  have hi : 5 + (i - 5) = i := by omega
  by_cases hw : i < 16
  · have : i - 5 < 11 := by omega
    simp [this, hi]
  · have : ¬ i - 5 < 11 := by omega
    simp [this, BitVec.getLsbD_of_ge w i (by omega)]

@[simp] theorem State.setFlags_supervisor (s : State) (f : Flags) : (s.setFlags f).supervisor = s.supervisor :=
  Flags.into_getLsbD f s.sr 13 (by decide)

@[simp] theorem State.setFlags_trace (s : State) (f : Flags) : (s.setFlags f).trace = s.trace :=
  Flags.into_getLsbD f s.sr 15 (by decide)

@[simp] theorem Flags.ofWord_into (f : Flags) (w : Word) : Flags.ofWord (f.into w) = f := by
  rcases f with ⟨x, n, z, v, c⟩
  simp only [Flags.ofWord, Flags.into, Flags.toBits, BitVec.getLsbD_append]
  cases x <;> cases n <;> cases z <;> cases v <;> cases c <;> rfl

@[simp] theorem State.setFlags_flags (s : State) (f : Flags) : (s.setFlags f).flags = f := by
  simp [State.flags]

@[simp] theorem State.setD_supervisor (s : State) (n : Fin 8) (v : Long) : (s.setD n v).supervisor = s.supervisor := rfl
@[simp] theorem State.setD_flags (s : State) (n : Fin 8) (v : Long) : (s.setD n v).flags = s.flags := rfl
@[simp] theorem State.setD_dualSp (s : State) (n : Fin 8) (v : Long) : (s.setD n v).dualSp = s.dualSp := rfl
@[simp] theorem State.setD_sp (s : State) (n : Fin 8) (v : Long) : (s.setD n v).sp = s.sp := rfl
@[simp] theorem State.setD_getA (s : State) (n : Fin 8) (v : Long) (m : Fin 8) : (s.setD n v).getA m = s.getA m := rfl

@[simp] theorem State.setFlags_dualSp (s : State) (f : Flags) : (s.setFlags f).dualSp = s.dualSp := rfl
@[simp] theorem State.setFlags_sp (s : State) (f : Flags) : (s.setFlags f).sp = s.sp := by
  simp [State.sp]
@[simp] theorem State.setFlags_getA (s : State) (f : Flags) (m : Fin 8) : (s.setFlags f).getA m = s.getA m := by
  simp [State.getA]
@[simp] theorem State.setFlags_getD (s : State) (f : Flags) (m : Fin 8) : (s.setFlags f).getD m = s.getD m := rfl

@[simp] theorem State.store_supervisor (s : State) (a : Long) (sz : Size) (v : Long) : (s.store a sz v).supervisor = s.supervisor := rfl
@[simp] theorem State.store_flags (s : State) (a : Long) (sz : Size) (v : Long) : (s.store a sz v).flags = s.flags := rfl
@[simp] theorem State.store_dualSp (s : State) (a : Long) (sz : Size) (v : Long) : (s.store a sz v).dualSp = s.dualSp := rfl
@[simp] theorem State.store_sp (s : State) (a : Long) (sz : Size) (v : Long) : (s.store a sz v).sp = s.sp := rfl
@[simp] theorem State.store_getA (s : State) (a : Long) (sz : Size) (v : Long) (m : Fin 8) : (s.store a sz v).getA m = s.getA m := rfl
@[simp] theorem State.store_getD (s : State) (a : Long) (sz : Size) (v : Long) (m : Fin 8) : (s.store a sz v).getD m = s.getD m := rfl

@[simp] theorem State.synced_supervisor (s : State) : s.synced.supervisor = s.supervisor := rfl
@[simp] theorem State.synced_flags (s : State) : s.synced.flags = s.flags := rfl
@[simp] theorem State.synced_dualSp (s : State) : s.synced.dualSp = s.dualSp := rfl
@[simp] theorem State.synced_sp (s : State) : s.synced.sp = s.sp := rfl
@[simp] theorem State.synced_getA (s : State) (m : Fin 8) : s.synced.getA m = s.getA m := rfl
@[simp] theorem State.synced_getD (s : State) (m : Fin 8) : s.synced.getD m = s.getD m := rfl

@[simp] theorem State.advanced_supervisor (s : State) (k : Nat) : (s.advanced k).supervisor = s.supervisor := rfl
@[simp] theorem State.advanced_flags (s : State) (k : Nat) : (s.advanced k).flags = s.flags := rfl
@[simp] theorem State.advanced_dualSp (s : State) (k : Nat) : (s.advanced k).dualSp = s.dualSp := rfl
@[simp] theorem State.advanced_sp (s : State) (k : Nat) : (s.advanced k).sp = s.sp := rfl
@[simp] theorem State.advanced_getA (s : State) (k : Nat) (m : Fin 8) : (s.advanced k).getA m = s.getA m := rfl
@[simp] theorem State.advanced_getD (s : State) (k : Nat) (m : Fin 8) : (s.advanced k).getD m = s.getD m := rfl

@[simp] theorem State.faultOnFault_supervisor (s : State) (x y : Byte) : (s.faultOnFault x y).supervisor = s.supervisor := rfl
@[simp] theorem State.faultOnFault_flags (s : State) (x y : Byte) : (s.faultOnFault x y).flags = s.flags := rfl
@[simp] theorem State.faultOnFault_dualSp (s : State) (x y : Byte) : (s.faultOnFault x y).dualSp = s.dualSp := rfl
@[simp] theorem State.faultOnFault_sp (s : State) (x y : Byte) : (s.faultOnFault x y).sp = s.sp := rfl
@[simp] theorem State.faultOnFault_getA (s : State) (x y : Byte) (m : Fin 8) : (s.faultOnFault x y).getA m = s.getA m := rfl
@[simp] theorem State.faultOnFault_getD (s : State) (x y : Byte) (m : Fin 8) : (s.faultOnFault x y).getD m = s.getD m := rfl


@[simp] theorem State.setSp_supervisor (s : State) (v : Long) : (s.setSp v).supervisor = s.supervisor := by
  simp [State.supervisor]

@[simp] theorem State.setSp_dualSp (s : State) (v : Long) : (s.setSp v).dualSp = s.dualSp := by
  simp [State.dualSp]

@[simp] theorem State.setSp_flags (s : State) (v : Long) : (s.setSp v).flags = s.flags := by
  simp [State.flags]

@[simp] theorem State.setSp_getD (s : State) (v : Long) (m : Fin 8) : (s.setSp v).getD m = s.getD m := by
  simp [State.getD]

@[simp] theorem State.setSp_sp (s : State) (v : Long) : (s.setSp v).sp = v := by
  simp only [State.sp, State.setSp_supervisor, State.setSp_dualSp]
  unfold State.setSp
  split <;> rfl

@[simp] theorem State.setA_supervisor (s : State) (n : Fin 8) (v : Long) : (s.setA n v).supervisor = s.supervisor := by
  simp [State.supervisor]

@[simp] theorem State.setA_dualSp (s : State) (n : Fin 8) (v : Long) : (s.setA n v).dualSp = s.dualSp := by
  simp [State.dualSp]

@[simp] theorem State.setA_flags (s : State) (n : Fin 8) (v : Long) : (s.setA n v).flags = s.flags := by
  simp [State.flags]

@[simp] theorem State.setA_getD (s : State) (n : Fin 8) (v : Long) (m : Fin 8) : (s.setA n v).getD m = s.getD m := by
  simp [State.getD]

theorem State.getD_setD (s : State) (n m : Fin 8) (v : Long) :
    (s.setD n v).getD m = if n = m then v else s.getD m := by
  simp [State.getD, State.setD, Vector.getElem_set, Fin.ext_iff]

@[simp] theorem State.getD_setD_same (s : State) (n : Fin 8) (v : Long) : (s.setD n v).getD n = v := by
  simp [State.getD_setD]

theorem State.setA_lt (s : State) (n : Fin 8) (v : Long) (h : n.val < 7) :
    s.setA n v = { s with a := s.a.set n.val v } := by
  simp [State.setA, h]

theorem State.setA_seven (s : State) (n : Fin 8) (v : Long) (h : ¬ n.val < 7) : s.setA n v = s.setSp v := by
  simp [State.setA, h]

theorem State.getA_lt (s : State) (n : Fin 8) (h : n.val < 7) : s.getA n = s.a[n.val] := by
  simp [State.getA, h]

theorem State.getA_seven (s : State) (n : Fin 8) (h : ¬ n.val < 7) : s.getA n = s.sp := by
  simp [State.getA, h]

/-- `A[m]` after `A[n]` was written: all of An, and no other address register (R123). -/
theorem State.getA_setA (s : State) (n m : Fin 8) (v : Long) :
    (s.setA n v).getA m = if n = m then v else s.getA m := by
  by_cases hn : n.val < 7
  · rw [State.setA_lt s n v hn]
    by_cases hm : m.val < 7
    · simp [State.getA, hm, Vector.getElem_set, Fin.ext_iff]
    · have : n ≠ m := fun h => hm (h ▸ hn)
      simp [State.getA, hm, this, State.sp, State.supervisor, State.dualSp]
  · rw [State.setA_seven s n v hn]
    by_cases hm : m.val < 7
    · have : n ≠ m := fun h => hn (h ▸ hm)
      simp [State.getA, hm, this]
    · have : n = m := Fin.ext (by omega)
      simp [State.getA, hm, this]

@[simp] theorem State.getA_setA_same (s : State) (n : Fin 8) (v : Long) : (s.setA n v).getA n = v := by
  simp [State.getA_setA]

theorem State.getA_setSp (s : State) (m : Fin 8) (v : Long) :
    (s.setSp v).getA m = if m.val < 7 then s.getA m else v := by
  by_cases hm : m.val < 7 <;> simp [State.getA, hm]

end Sys2Proof.Machine
end

