-- ==== Sys2Proof/Laws/Operands.lean ====
section
/-! SUPPORT. What each shared operation does: one lemma for when it comes to a value, one that lists everything it can come
to. -/

namespace Sys2Proof.Machine

-- One theorem after another: elaborating them side by side takes a thread each, and no less time.
set_option Elab.async false

@[simp] theorem Res.bind_ok {α β : Type} (x : α) (s : State) (k : α → State → Res β) : (Res.ok x s).bind k = k x s := rfl
@[simp] theorem Res.bind_raise {α β : Type} (e : Exc) (s : State) (k : α → State → Res β) :
    (Res.raise e s : Res α).bind k = .raise e s := rfl
@[simp] theorem Res.bind_refuse {α β : Type} (r : Refusal) (k : α → State → Res β) :
    (Res.refuse r : Res α).bind k = .refuse r := rfl
@[simp] theorem Res.bind_fault {α β : Type} (f : Fault) (k : α → State → Res β) :
    (Res.fault f : Res α).bind k = .fault f := rfl
@[simp] theorem finish_ok (s0 s : State) : finish s0 (.ok () s) = .next s := rfl
@[simp] theorem finish_raise (s0 : State) (e : Exc) (s : State) : finish s0 (.raise e s) = .next (takeException s0 e s) := rfl
@[simp] theorem finish_refuse (s0 : State) (r : Refusal) : finish s0 (.refuse r) = .refused r := rfl
@[simp] theorem finish_fault (s0 : State) (f : Fault) : finish s0 (.fault f) = .fault f := rfl

theorem advance_eq (n : Nat) (s : State) : advance n s = .ok () (s.advanced n) := rfl

/-- A bind that comes to a value went through a value. -/
theorem Res.bind_eq_ok {α β : Type} {r : Res α} {k : α → State → Res β} {y : β} {t : State} (h : r.bind k = .ok y t) :
    ∃ x s, r = .ok x s ∧ k x s = .ok y t := by
  cases r with
  | ok x s => exact ⟨x, s, rfl, h⟩
  | raise e s => cases h
  | refuse r => cases h
  | fault f => cases h

/-- The platform looks at the configuration and the mode only. -/
theorem State.refusing_eq (s t : State) (hc : t.cfg = s.cfg) (hs : t.supervisor = s.supervisor) (kind : AccessKind)
    (a : Long) (n : Nat) : t.refusing kind a n = s.refusing kind a n := by
  simp [State.refusing, hc, hs]

theorem State.refuses_eq (s t : State) (hc : t.cfg = s.cfg) (hs : t.supervisor = s.supervisor) (kind : AccessKind)
    (a : Long) (n : Nat) : t.refuses kind a n = s.refuses kind a n := by
  simp [State.refuses, State.refusing_eq s t hc hs]

@[simp] theorem State.setFlags_refuses (s : State) (f : Flags) (k : AccessKind) (a : Long) (n : Nat) :
    (s.setFlags f).refuses k a n = s.refuses k a n := State.refuses_eq _ _ (by simp) (by simp) _ _ _
@[simp] theorem State.setD_refuses (s : State) (x : Fin 8) (v : Long) (k : AccessKind) (a : Long) (n : Nat) :
    (s.setD x v).refuses k a n = s.refuses k a n := State.refuses_eq _ _ (by simp) (by simp) _ _ _
@[simp] theorem State.setA_refuses (s : State) (x : Fin 8) (v : Long) (k : AccessKind) (a : Long) (n : Nat) :
    (s.setA x v).refuses k a n = s.refuses k a n := State.refuses_eq _ _ (by simp) (by simp) _ _ _
@[simp] theorem State.setSp_refuses (s : State) (v : Long) (k : AccessKind) (a : Long) (n : Nat) :
    (s.setSp v).refuses k a n = s.refuses k a n := State.refuses_eq _ _ (by simp) (by simp) _ _ _
@[simp] theorem State.store_refuses (s : State) (b : Long) (sz : Size) (v : Long) (k : AccessKind) (a : Long) (n : Nat) :
    (s.store b sz v).refuses k a n = s.refuses k a n := State.refuses_eq _ _ (by simp) (by simp) _ _ _

/-! Memory accesses. -/

theorem loadMem_ok (a : Long) (sz : Size) (s : State) (h : s.refuses .read a sz.bytes = false) :
    loadMem a sz s = .ok (s.load a sz) s := by
  simp [loadMem, h]

theorem loadMem_refused (a : Long) (sz : Size) (s : State) (h : s.refuses .read a sz.bytes = true) :
    loadMem a sz s = .raise (.accessError 0xC#4) s := by
  simp [loadMem, h]

theorem storeMem_ok (a : Long) (sz : Size) (v : Long) (s : State) (h : s.refuses .write a sz.bytes = false) :
    storeMem a sz v s = .ok () (s.store a sz v) := by
  have : s.refusing .write a sz.bytes = none := by simpa [State.refuses] using h
  simp [storeMem, this]

/-- Everything a store can come to. -/
theorem storeMem_cases (a : Long) (sz : Size) (v : Long) (s : State) :
    storeMem a sz v s = .ok () (s.store a sz v) ∨
    (∃ fs, storeMem a sz v s = .raise (.accessError fs) s) ∨
    (∃ fs, storeMem a sz v s = .ok () { s with writeFaults := s.writeFaults ++ [fs] }) := by
  unfold storeMem
  split
  · exact .inl rfl
  · split
    · exact .inr (.inl ⟨_, rfl⟩)
    · exact .inr (.inr ⟨_, rfl⟩)

theorem push_ok (v : Long) (s : State) (h : pushReady s = true) : push v s = .ok () (pushed v s) := by
  have : s.refuses .write (s.sp - 4#32) 4 = false := by simpa [pushReady] using h
  simp [push, pushed, storeMem_ok, this, Size.bytes]

/-! Fetching extension words. -/

theorem fetchCheck_cases (a : Long) (s : State) :
    fetchCheck a s = .ok () s ∨ fetchCheck a s = .raise (.accessError 4#4) s ∨ fetchCheck a s = .refuse .selfModified := by
  unfold fetchCheck
  split
  · exact .inr (.inl rfl)
  · split
    · exact .inr (.inr rfl)
    · exact .inl rfl

/-- Everything a fetch of extension words can come to: the state is unchanged. -/
theorem fetchExt_cases (off n : Nat) (s : State) :
    fetchExt off n s = .ok () s ∨ fetchExt off n s = .raise (.accessError 4#4) s ∨
      fetchExt off n s = .refuse .selfModified := by
  induction n generalizing off with
  | zero => exact .inl rfl
  | succ n ih =>
    rcases fetchCheck_cases (s.pc + 2#32 * BitVec.ofNat 32 off) s with h | h | h
    · simpa [fetchExt, h] using ih (off + 1)
    · exact .inr (.inl (by simp [fetchExt, h]))
    · exact .inr (.inr (by simp [fetchExt, h]))

theorem extReady_succ (off n : Nat) (s : State) :
    extReady off (n + 1) s =
      (!s.refuses .fetch (s.pc + 2#32 * BitVec.ofNat 32 off) 2 && !s.dirty (s.pc + 2#32 * BitVec.ofNat 32 off) &&
        extReady (off + 1) n s) := by
  have h : ∀ i, off + (i + 1) = off + 1 + i := fun i => by omega
  simp only [extReady, List.range_succ_eq_map, List.all_cons, List.all_map, Function.comp_def, Nat.succ_eq_add_one]
  congr 1
  exact congrArg (List.all (List.range n)) (funext fun i => by rw [h i])

theorem fetchExt_ok (off n : Nat) (s : State) (h : extReady off n s = true) : fetchExt off n s = .ok () s := by
  induction n generalizing off with
  | zero => rfl
  | succ n ih =>
    rw [extReady_succ] at h
    simp only [Bool.and_eq_true, Bool.not_eq_true'] at h
    simp [fetchExt, fetchCheck, h.1.1, h.1.2, ih (off + 1) h.2]

/-! Effective addresses. -/

@[simp] theorem eaUpdate_pc (sz : Size) (ea : Ea) (s : State) : (eaUpdate sz ea s).pc = s.pc := by
  cases ea <;> simp [eaUpdate]
@[simp] theorem eaUpdate_cfg (sz : Size) (ea : Ea) (s : State) : (eaUpdate sz ea s).cfg = s.cfg := by
  cases ea <;> simp [eaUpdate]
@[simp] theorem eaUpdate_sr (sz : Size) (ea : Ea) (s : State) : (eaUpdate sz ea s).sr = s.sr := by
  cases ea <;> simp [eaUpdate]
@[simp] theorem eaUpdate_mem (sz : Size) (ea : Ea) (s : State) : (eaUpdate sz ea s).mem = s.mem := by
  cases ea <;> simp [eaUpdate]
@[simp] theorem eaUpdate_flags (sz : Size) (ea : Ea) (s : State) : (eaUpdate sz ea s).flags = s.flags := by
  cases ea <;> simp [eaUpdate]
@[simp] theorem eaUpdate_getD (sz : Size) (ea : Ea) (s : State) (m : Fin 8) : (eaUpdate sz ea s).getD m = s.getD m := by
  cases ea <;> simp [eaUpdate]
@[simp] theorem eaUpdate_supervisor (sz : Size) (ea : Ea) (s : State) :
    (eaUpdate sz ea s).supervisor = s.supervisor := by
  cases ea <;> simp [eaUpdate]
@[simp] theorem eaUpdate_refuses (sz : Size) (ea : Ea) (s : State) (k : AccessKind) (a : Long) (n : Nat) :
    (eaUpdate sz ea s).refuses k a n = s.refuses k a n := State.refuses_eq _ _ (by simp) (by simp) _ _ _
@[simp] theorem eaUpdate_load (sz : Size) (ea : Ea) (s : State) (a : Long) (z : Size) :
    (eaUpdate sz ea s).load a z = s.load a z := by
  simp [State.load]

theorem eaAddr_ok (sz : Size) (off : Nat) (ea : Ea) (s : State) (h : eaReady sz off ea s = true) :
    eaAddr sz off ea s = .ok (eaAddress sz ea s) (eaUpdate sz ea s) := by
  simp only [eaReady, Bool.and_eq_true, Bool.not_eq_true'] at h
  simp [eaAddr, h.1.1, fetchExt_ok off _ s h.1.2, h.2]

/-- Everything the evaluation of an effective address can come to. -/
theorem eaAddr_cases (sz : Size) (off : Nat) (ea : Ea) (s : State) :
    eaAddr sz off ea s = .ok (eaAddress sz ea s) (eaUpdate sz ea s) ∨
    eaAddr sz off ea s = .raise (.accessError 4#4) s ∨
    (eaAddr sz off ea s = .raise .addressError s ∧ badExtension s.cfg ea = true) ∨
    eaAddr sz off ea s = .refuse .selfModified ∨
    (eaAddr sz off ea s = .fault .illFormed ∧ isMemory ea = false) := by
  unfold eaAddr
  split
  · rcases fetchExt_cases off (eaWords sz ea) s with h | h | h <;> simp only [h, Res.bind_ok, Res.bind_raise, Res.bind_refuse]
    · split
      · rename_i hb
        exact .inr (.inr (.inl ⟨rfl, hb⟩))
      · exact .inl rfl
    · exact .inr (.inl trivial)
    · exact .inr (.inr (.inr (.inl trivial)))
  · rename_i hm
    exact .inr (.inr (.inr (.inr ⟨rfl, by simpa using hm⟩)))

theorem readEa_ok (sz : Size) (off : Nat) (ea : Ea) (s : State) (h : sourceReady sz off ea s = true) :
    readEa sz off ea s = .ok (sourceValue sz ea s) (eaUpdate sz ea s) := by
  cases ea <;> simp only [sourceReady, Bool.and_eq_true, eaAllows, Bool.not_eq_true', decide_eq_true_eq] at h
  case dreg n => rfl
  case areg n => simp [readEa, h, sourceValue, eaUpdate]
  case imm v => simp [readEa, fetchExt_ok off _ s h, sourceValue, eaUpdate]
  all_goals simp [readEa, eaAddr_ok _ _ _ _ h.1, loadMem_ok, h.2, sourceValue]

theorem writeEa_ok (sz : Size) (off : Nat) (ea : Ea) (v : Long) (s : State) (h : destReady sz off ea s = true) :
    writeEa sz off ea v s = .ok () (written sz ea v s) := by
  cases ea <;> simp only [destReady, Bool.and_eq_true, eaAllows, Bool.not_eq_true'] at h
  case dreg n => rfl
  case areg n => rfl
  all_goals simp [writeEa, eaAddr_ok _ _ _ _ h.1, storeMem_ok, h.2, written]

theorem modifyEa_ok (sz : Size) (off : Nat) (ea : Ea) (f : Long → Flags → Long × Flags) (s : State)
    (hm : ∀ n, ea ≠ .areg n) (h : modifyReady sz off ea s = true) :
    modifyEa sz off ea f s =
      .ok () ((written sz ea (f (sourceValue sz ea s) s.flags).1 s).setFlags (f (sourceValue sz ea s) s.flags).2) := by
  cases ea <;> simp only [modifyReady, Bool.and_eq_true, eaAllows, Bool.not_eq_true'] at h
  case dreg n => rfl
  case areg n => exact absurd rfl (hm n)
  case imm v => simp [eaReady, isMemory] at h
  all_goals simp [modifyEa, eaAddr_ok _ _ _ _ h.1.1, loadMem_ok, storeMem_ok, h.1.2, h.2, written, sourceValue]

theorem sourceToD_ok (sz : Size) (off : Nat) (ea : Ea) (n : Fin 8) (f : Long → Long → Flags → Long × Flags) (s : State)
    (h : sourceReady sz off ea s = true) :
    sourceToD sz off ea n f s =
      .ok () (((eaUpdate sz ea s).setD n (f (sourceValue sz ea s) (s.getD n) s.flags).1).setFlags
        (f (sourceValue sz ea s) (s.getD n) s.flags).2) := by
  simp [sourceToD, readEa_ok sz off ea s h, modifyD]

end Sys2Proof.Machine
end

