-- ==== Sys2Proof/Laws/Exceptions.lean ====
section
/-! SUPPORT. Everything that reads, writes, pushes, exception entry, exception return and synchronizing instructions can come to;
what an entry keeps. -/

namespace Sys2Proof.Machine

-- One theorem after another: elaborating them side by side takes a thread each, and no less time.
set_option Elab.async false

/-! Accesses. -/

/-- Everything a read of memory can come to. -/
theorem loadMem_cases (a : Long) (sz : Size) (s : State) :
    loadMem a sz s = .ok (s.load a sz) s ∨ loadMem a sz s = .raise (.accessError 0xC#4) s := by
  cases h : s.refuses .read a sz.bytes
  · exact .inl (loadMem_ok a sz s h)
  · exact .inr (loadMem_refused a sz s h)

/-- Everything a push can come to. -/
theorem push_cases (v : Long) (s : State) :
    push v s = .ok () (pushed v s) ∨
    (∃ fs, push v s = .raise (.accessError fs) (s.setSp (s.sp - 4#32))) ∨
    (∃ fs, push v s = .ok () { s.setSp (s.sp - 4#32) with writeFaults := s.writeFaults ++ [fs] }) := by
  have h := storeMem_cases (s.sp - 4#32) .long v (s.setSp (s.sp - 4#32))
  simpa [push, pushed] using h

/-! Operands. -/

theorem readEa_memory (sz : Size) (off : Nat) (ea : Ea) (s : State) (h : isMemory ea = true) :
    readEa sz off ea s = (eaAddr sz off ea s).bind fun a s => loadMem a sz s := by
  cases ea <;> first | rfl | cases h

theorem sourceValue_memory (sz : Size) (ea : Ea) (s : State) (h : isMemory ea = true) :
    sourceValue sz ea s = s.load (eaAddress sz ea s) sz := by
  cases ea <;> first | rfl | cases h

theorem writeEa_memory (sz : Size) (off : Nat) (ea : Ea) (v : Long) (s : State) (h : ∀ n, ea ≠ .dreg n)
    (g : ∀ n, ea ≠ .areg n) : writeEa sz off ea v s = (eaAddr sz off ea s).bind fun a s => storeMem a sz v s := by
  cases ea <;> first | rfl | exact absurd rfl (h _) | exact absurd rfl (g _)

theorem written_memory (sz : Size) (ea : Ea) (v : Long) (s : State) (h : isMemory ea = true) :
    written sz ea v s = (eaUpdate sz ea s).store (eaAddress sz ea s) sz v := by
  cases ea <;> first | rfl | cases h

theorem isMemory_cases (ea : Ea) :
    isMemory ea = true ∨ (∃ n, ea = .dreg n) ∨ (∃ n, ea = .areg n) ∨ (∃ v, ea = .imm v) := by
  cases ea
  case dreg n => exact .inr (.inl ⟨n, rfl⟩)
  case areg n => exact .inr (.inr (.inl ⟨n, rfl⟩))
  case imm v => exact .inr (.inr (.inr ⟨v, rfl⟩))
  all_goals exact .inl rfl

/-- Everything a read of an operand can come to. -/
theorem readEa_cases (sz : Size) (off : Nat) (ea : Ea) (s : State) :
    readEa sz off ea s = .ok (sourceValue sz ea s) (eaUpdate sz ea s) ∨
    (∃ e t, readEa sz off ea s = .raise e t ∧ (t = s ∨ t = eaUpdate sz ea s)) ∨
    readEa sz off ea s = .refuse .selfModified ∨
    (readEa sz off ea s = .fault .illFormed ∧ sz = .byte ∧ ∃ n, ea = .areg n) := by
  rcases isMemory_cases ea with hm | ⟨n, rfl⟩ | ⟨n, rfl⟩ | ⟨v, rfl⟩
  · rw [readEa_memory sz off ea s hm, sourceValue_memory sz ea s hm]
    rcases eaAddr_cases sz off ea s with h | h | ⟨h, -⟩ | h | ⟨-, h⟩
    · rw [h]
      rcases loadMem_cases (eaAddress sz ea s) sz (eaUpdate sz ea s) with g | g
      · exact .inl (by simp [g])
      · exact .inr (.inl ⟨_, _, g, .inr rfl⟩)
    · exact .inr (.inl ⟨_, s, by rw [h]; rfl, .inl rfl⟩)
    · exact .inr (.inl ⟨_, s, by rw [h]; rfl, .inl rfl⟩)
    · exact .inr (.inr (.inl (by rw [h]; rfl)))
    · rw [hm] at h
      cases h
  · exact .inl rfl
  · cases sz
    · exact .inr (.inr (.inr ⟨rfl, rfl, n, rfl⟩))
    · exact .inl rfl
    · exact .inl rfl
  · rcases fetchExt_cases off (eaWords sz (.imm v)) s with h | h | h
    · exact .inl (by simp [readEa, h, sourceValue, eaUpdate])
    · exact .inr (.inl ⟨_, s, by simp only [readEa, h, Res.bind_raise]; rfl, .inl rfl⟩)
    · exact .inr (.inr (.inl (by simp [readEa, h])))

/-- The state after a write the platform refused and will report later. -/
theorem eaUpdate_writeFaults (sz : Size) (ea : Ea) (s : State) : (eaUpdate sz ea s).writeFaults = s.writeFaults := by
  cases ea <;> simp [eaUpdate]

/-- Everything a write of an operand can come to. -/
theorem writeEa_cases (sz : Size) (off : Nat) (ea : Ea) (v : Long) (s : State) :
    writeEa sz off ea v s = .ok () (written sz ea v s) ∨
    (∃ fs, writeEa sz off ea v s = .ok () { eaUpdate sz ea s with writeFaults := s.writeFaults ++ [fs] } ∧
      isMemory ea = true) ∨
    (∃ e t, writeEa sz off ea v s = .raise e t ∧ (t = s ∨ t = eaUpdate sz ea s)) ∨
    writeEa sz off ea v s = .refuse .selfModified ∨
    (writeEa sz off ea v s = .fault .illFormed ∧ ∃ w, ea = .imm w) := by
  rcases isMemory_cases ea with hm | ⟨n, rfl⟩ | ⟨n, rfl⟩ | ⟨w, rfl⟩
  · rw [writeEa_memory sz off ea v s (by rintro n rfl; cases hm) (by rintro n rfl; cases hm),
      written_memory sz ea v s hm]
    rcases eaAddr_cases sz off ea s with h | h | ⟨h, -⟩ | h | ⟨-, h⟩
    · rw [h]
      rcases storeMem_cases (eaAddress sz ea s) sz v (eaUpdate sz ea s) with g | ⟨fs, g⟩ | ⟨fs, g⟩
      · exact .inl g
      · exact .inr (.inr (.inl ⟨_, _, g, .inr rfl⟩))
      · exact .inr (.inl ⟨fs, by rw [← eaUpdate_writeFaults sz ea s]; exact g, hm⟩)
    · exact .inr (.inr (.inl ⟨_, s, by rw [h]; rfl, .inl rfl⟩))
    · exact .inr (.inr (.inl ⟨_, s, by rw [h]; rfl, .inl rfl⟩))
    · exact .inr (.inr (.inr (.inl (by rw [h]; rfl))))
    · rw [hm] at h
      cases h
  · exact .inl rfl
  · exact .inl rfl
  · exact .inr (.inr (.inr (.inr ⟨rfl, w, rfl⟩)))

/-- Everything a read-modify-write of an operand can come to. -/
theorem modifyEa_cases (sz : Size) (off : Nat) (ea : Ea) (f : Long → Flags → Long × Flags) (s : State) :
    ((∀ n, ea ≠ .areg n) ∧ modifyEa sz off ea f s =
      .ok () ((written sz ea (f (sourceValue sz ea s) s.flags).1 s).setFlags (f (sourceValue sz ea s) s.flags).2)) ∨
    (∃ fs, modifyEa sz off ea f s =
      .ok () (State.setFlags { eaUpdate sz ea s with writeFaults := s.writeFaults ++ [fs] }
        (f (sourceValue sz ea s) s.flags).2) ∧ isMemory ea = true) ∨
    (∃ e t, modifyEa sz off ea f s = .raise e t ∧ (t = s ∨ t = eaUpdate sz ea s)) ∨
    modifyEa sz off ea f s = .refuse .selfModified ∨
    (modifyEa sz off ea f s = .fault .illFormed ∧ ((∃ n, ea = .areg n) ∨ ∃ w, ea = .imm w)) := by
  rcases isMemory_cases ea with hm | ⟨n, rfl⟩ | ⟨n, rfl⟩ | ⟨w, rfl⟩
  · have hx : modifyEa sz off ea f s = (eaAddr sz off ea s).bind fun a s =>
        (loadMem a sz s).bind fun v s =>
          (storeMem a sz (f v s.flags).1 s).bind fun _ t => .ok () (t.setFlags (f v s.flags).2) := by
      cases ea <;> first | rfl | cases hm
    rw [hx, sourceValue_memory sz ea s hm, written_memory sz ea _ s hm]
    rcases eaAddr_cases sz off ea s with h | h | ⟨h, -⟩ | h | ⟨-, h⟩
    · rw [h]
      rcases loadMem_cases (eaAddress sz ea s) sz (eaUpdate sz ea s) with k | k
      · rw [Res.bind_ok, k, Res.bind_ok, eaUpdate_load, eaUpdate_flags]
        rcases storeMem_cases (eaAddress sz ea s) sz (f (s.load (eaAddress sz ea s) sz) s.flags).1 (eaUpdate sz ea s)
          with g | ⟨fs, g⟩ | ⟨fs, g⟩
        · exact .inl ⟨(by intro n hn; subst hn; cases hm), (by rw [g]; rfl)⟩
        · exact .inr (.inr (.inl ⟨_, _, by rw [g]; rfl, .inr rfl⟩))
        · exact .inr (.inl ⟨fs, by rw [g, eaUpdate_writeFaults]; rfl, hm⟩)
      · exact .inr (.inr (.inl ⟨_, _, by rw [Res.bind_ok, k]; rfl, .inr rfl⟩))
    · exact .inr (.inr (.inl ⟨_, s, by rw [h]; rfl, .inl rfl⟩))
    · exact .inr (.inr (.inl ⟨_, s, by rw [h]; rfl, .inl rfl⟩))
    · exact .inr (.inr (.inr (.inl (by rw [h]; rfl))))
    · rw [hm] at h
      cases h
  · exact .inl ⟨(by intro m h; cases h), rfl⟩
  · exact .inr (.inr (.inr (.inr ⟨rfl, .inl ⟨n, rfl⟩⟩)))
  · exact .inr (.inr (.inr (.inr ⟨rfl, .inr ⟨w, rfl⟩⟩)))

/-! Exception entry. -/

/-- The state an entry works on: SR as R372 step 1 leaves it. -/
def State.entered (level : Option (BitVec 3)) (s : State) : State := { s with sr := entrySr level s.sr }

theorem tryStore_ok (s : State) (a v : Long) (h : s.refuses .write a 4 = false) : s.tryStore a v = some (s.store a .long v) := by
  simp [State.tryStore, h]

theorem tryStore_refused (s : State) (a v : Long) (h : s.refuses .write a 4 = true) : s.tryStore a v = none := by
  simp [State.tryStore, h]

theorem tryLoad_ok (s : State) (a : Long) (h : s.refuses .read a 4 = false) : s.tryLoad a = some (s.load a .long) := by
  simp [State.tryLoad, h]

theorem tryLoad_refused (s : State) (a : Long) (h : s.refuses .read a 4 = true) : s.tryLoad a = none := by
  simp [State.tryLoad, h]

/-- Everything an exception entry can come to: fault on fault at each of its three accesses, or the handler. -/
theorem enter_cases (vec : Byte) (spc : Long) (fs : BitVec 4) (level : Option (BitVec 3)) (s : State) :
    let e := s.entered level
    let base := frameBase e.sp
    let s2 := e.store (base + 4#32) .long spc
    let s4 := (s2.store base .long (frameWord e.sp vec fs s.sr)).setSp base
    (e.refuses .write (base + 4#32) 4 = true ∧ enter vec spc fs level s = e.faultOnFault vec 2#8) ∨
    (e.refuses .write (base + 4#32) 4 = false ∧ e.refuses .write base 4 = true ∧
      enter vec spc fs level s = s2.faultOnFault vec 2#8) ∨
    (e.refuses .write (base + 4#32) 4 = false ∧ e.refuses .write base 4 = false ∧
      e.refuses .read (vectorAddress s.vbr vec) 4 = true ∧ enter vec spc fs level s = s4.faultOnFault vec 2#8) ∨
    (e.refuses .write (base + 4#32) 4 = false ∧ e.refuses .write base 4 = false ∧
      e.refuses .read (vectorAddress s.vbr vec) 4 = false ∧
      enter vec spc fs level s =
        { s4 with pc := s4.load (vectorAddress s.vbr vec) .long, inhibit := true, run := .running, firstFetch := some vec }) := by
  intro e base s2 s4
  have hd : enter vec spc fs level s =
      (match e.tryStore (base + 4#32) spc with
      | none => e.faultOnFault vec 2#8
      | some s2 =>
        match s2.tryStore base (frameWord e.sp vec fs s.sr) with
        | none => s2.faultOnFault vec 2#8
        | some s3 =>
          match (s3.setSp base).tryLoad (vectorAddress (s3.setSp base).vbr vec) with
          | none => (s3.setSp base).faultOnFault vec 2#8
          | some h => { s3.setSp base with pc := h, inhibit := true, run := .running, firstFetch := some vec }) := rfl
  cases h1 : e.refuses .write (base + 4#32) 4
  · rw [tryStore_ok e _ _ h1] at hd
    cases h2 : e.refuses .write base 4
    · have h2' : (e.store (base + 4#32) .long spc).refuses .write base 4 = false := by simpa using h2
      simp only [tryStore_ok _ _ _ h2'] at hd
      have hv : s4.vbr = s.vbr := by simp [s4, s2, e, State.entered]
      have ha : vectorAddress s.vbr vec = vectorAddress s4.vbr vec := by rw [hv]
      have h4 : s4.refuses .read (vectorAddress s4.vbr vec) 4 = e.refuses .read (vectorAddress s.vbr vec) 4 := by
        rw [← ha]
        simp [s4, s2]
      cases h3 : e.refuses .read (vectorAddress s.vbr vec) 4
      · rw [h3] at h4
        refine .inr (.inr (.inr ⟨rfl, rfl, rfl, ?_⟩))
        rw [ha]
        exact hd.trans (by rw [tryLoad_ok s4 _ h4])
      · rw [h3] at h4
        refine .inr (.inr (.inl ⟨rfl, rfl, rfl, ?_⟩))
        exact hd.trans (by rw [tryLoad_refused s4 _ h4])
    · have h2' : (e.store (base + 4#32) .long spc).refuses .write base 4 = true := by simpa using h2
      simp only [tryStore_refused _ _ _ h2'] at hd
      exact .inr (.inl ⟨rfl, rfl, hd⟩)
  · rw [tryStore_refused e _ _ h1] at hd
    exact .inl ⟨rfl, hd⟩

theorem enter_d (vec : Byte) (spc : Long) (fs : BitVec 4) (level : Option (BitVec 3)) (s : State) :
    (enter vec spc fs level s).d = s.d := by
  rcases enter_cases vec spc fs level s with ⟨-, h⟩ | ⟨-, -, h⟩ | ⟨-, -, -, h⟩ | ⟨-, -, -, h⟩ <;> rw [h] <;>
    simp [State.entered]

theorem enter_a (vec : Byte) (spc : Long) (fs : BitVec 4) (level : Option (BitVec 3)) (s : State) :
    (enter vec spc fs level s).a = s.a := by
  rcases enter_cases vec spc fs level s with ⟨-, h⟩ | ⟨-, -, h⟩ | ⟨-, -, -, h⟩ | ⟨-, -, -, h⟩ <;> rw [h] <;>
    simp [State.entered]

theorem enter_sr (vec : Byte) (spc : Long) (fs : BitVec 4) (level : Option (BitVec 3)) (s : State) :
    (enter vec spc fs level s).sr = entrySr level s.sr := by
  rcases enter_cases vec spc fs level s with ⟨-, h⟩ | ⟨-, -, h⟩ | ⟨-, -, -, h⟩ | ⟨-, -, -, h⟩ <;> rw [h] <;>
    simp [State.entered]

theorem enter_cfg (vec : Byte) (spc : Long) (fs : BitVec 4) (level : Option (BitVec 3)) (s : State) :
    (enter vec spc fs level s).cfg = s.cfg := by
  rcases enter_cases vec spc fs level s with ⟨-, h⟩ | ⟨-, -, h⟩ | ⟨-, -, -, h⟩ | ⟨-, -, -, h⟩ <;> rw [h] <;>
    simp [State.entered]

theorem enter_vbr (vec : Byte) (spc : Long) (fs : BitVec 4) (level : Option (BitVec 3)) (s : State) :
    (enter vec spc fs level s).vbr = s.vbr := by
  rcases enter_cases vec spc fs level s with ⟨-, h⟩ | ⟨-, -, h⟩ | ⟨-, -, -, h⟩ | ⟨-, -, -, h⟩ <;> rw [h] <;>
    simp [State.entered]

theorem enter_control (vec : Byte) (spc : Long) (fs : BitVec 4) (level : Option (BitVec 3)) (s : State) :
    (enter vec spc fs level s).control = s.control := by
  rcases enter_cases vec spc fs level s with ⟨-, h⟩ | ⟨-, -, h⟩ | ⟨-, -, -, h⟩ | ⟨-, -, -, h⟩ <;> rw [h] <;>
    simp [State.entered, State.control]

/-- After an entry the machine is not quiet: sampling is inhibited, or the core halted. -/
theorem enter_not_quiet (vec : Byte) (spc : Long) (fs : BitVec 4) (level : Option (BitVec 3)) (s : State) :
    ¬(enter vec spc fs level s).quiet := by
  rcases enter_cases vec spc fs level s with ⟨-, h⟩ | ⟨-, -, h⟩ | ⟨-, -, -, h⟩ | ⟨-, -, -, h⟩ <;> rw [h] <;>
    simp [State.quiet]

/-- An instruction that is quiet after it completed with a value. -/
theorem finish_quiet {s0 : State} {r : Res Unit} {t : State} (h : finish s0 r = .next t) (q : t.quiet) : r = .ok () t := by
  cases r with
  | ok u s =>
    cases h
    rfl
  | raise e s =>
    cases h
    exact absurd q (enter_not_quiet _ _ _ _ _)
  | refuse r => cases h
  | fault f => cases h

/-! Exception return. -/

/-- Everything a return from exception can come to. -/
theorem returnFromException_cases (s : State) :
    let w := s.load s.sp .long
    let fmt := w.extractLsb' 28 4
    returnFromException s = .raise (.accessError 0xC#4) s ∨
    ((fmt.toNat < 4 ∨ 7 < fmt.toNat) ∧ returnFromException s = .raise .formatError s) ∨
    (¬(fmt.toNat < 4 ∨ 7 < fmt.toNat) ∧ returnFromException s =
      .ok () { (s.setSp (s.sp + 8#32 + (fmt - 4#4).setWidth 32)).loadSr (w.extractLsb' 0 16) with
        pc := s.load (s.sp + 4#32) .long }) := by
  intro w fmt
  unfold returnFromException
  rcases loadMem_cases s.sp .long s with h | h
  · rcases loadMem_cases (s.sp + 4#32) .long s with g | g
    · simp only [h, g, Res.bind_ok]
      split
      · rename_i hf
        exact .inr (.inl ⟨hf, rfl⟩)
      · rename_i hf
        exact .inr (.inr ⟨hf, rfl⟩)
    · exact .inl (by simp only [h, g, Res.bind_ok, Res.bind_raise])
  · exact .inl (by simp only [h, Res.bind_raise])

/-! Synchronizing instructions. -/

/-- A synchronizing instruction in user mode takes the privilege violation from the synchronized state. -/
theorem synchronizing_user (n : Nat) (s : State) (k : State → Res Unit) (h : s.supervisor = false) :
    synchronizing n s k = .next (enter 8#8 s.pc 0#4 none s.synced) := by
  simp [synchronizing, privileged, h, takeException, Exc.vector, Exc.stackedPc, Exc.faultStatus]

/-- Everything a synchronizing instruction can come to in supervisor mode: it runs from the synchronized state, or a fetch of one of
its own words raises or stops before it synchronizes. -/
theorem synchronizing_cases (n : Nat) (s : State) (k : State → Res Unit) (h : s.supervisor = true) :
    synchronizing n s k = finish s.synced (k s.synced) ∨
    synchronizing n s k = .next (enter 2#8 s.pc 4#4 none s) ∨
    synchronizing n s k = .refused .selfModified := by
  rcases fetchExt_cases 1 n s with g | g | g <;> simp only [synchronizing, privileged, h, g, if_true, Res.bind_ok,
    Res.bind_raise, Res.bind_refuse]
  · exact .inl trivial
  · exact .inr (.inl rfl)
  · exact .inr (.inr rfl)

/-- With its own words ready it runs from the synchronized state. -/
theorem synchronizing_ready (n : Nat) (s : State) (k : State → Res Unit) (h : s.supervisor = true)
    (hr : extReady 1 n s = true) : synchronizing n s k = finish s.synced (k s.synced) := by
  simp [synchronizing, privileged, h, fetchExt_ok 1 n s hr]

end Sys2Proof.Machine
end

