-- ==== Sys2Proof/Laws/PerInstr.lean ====
section
/-! SUPPORT. Statements proved instruction by instruction. `EncodeLength`: an instruction has one, two or three words (spec
30_encoding.md R90). -/

namespace Sys2Proof.Laws

-- One theorem after another: elaborating them side by side takes a thread each, and no less time.
set_option Elab.async false

open Sys2Proof

theorem ext_length (sz : Size) (ea : Ea) : (ea.ext sz).length ≤ 2 := by
  cases ea <;> cases sz <;> simp [Ea.ext, immWords, longWords]

theorem ext_length_short (sz : Size) (ea : Ea) (h : ea.short = true) : (ea.ext sz).length ≤ 1 := by
  cases ea <;> simp_all [Ea.short, Ea.ext]

theorem ext_length_block (sz : Size) (ea : Ea) (h : ea.block = true) : (ea.ext sz).length ≤ 1 := by
  cases ea <;> simp_all [Ea.block, Ea.ext]

theorem immWords_length (sz : Size) (v : Long) : 1 ≤ (immWords sz v).length ∧ (immWords sz v).length ≤ 2 := by
  cases sz <;> simp [immWords, longWords]

/-- A pair of the MOVE table has at most two extension words (R93 (c)). -/
theorem movePair_length (sz : Size) (src dst : Ea) (h : movePair sz src dst = true) :
    (src.ext sz).length + (dst.ext sz).length ≤ 2 := by
  cases src <;> cases dst <;> first
    | (exfalso; revert h; simp [movePair, Ea.dataAlterable, Ea.memoryAlterable]; done)
    | (cases sz <;> simp_all [movePair, Ea.ext, immWords, longWords, Ea.dataAlterable, Ea.memoryAlterable])

theorem disp_length (base : Nat) (d : Disp) : 1 ≤ (d.encode base).length ∧ (d.encode base).length ≤ 3 := by
  cases d <;> simp [Disp.encode, longWords]

/-- The encoding has one to three words. -/
def EncodeLength.Statement (i : Instr) : Prop := i.wf = true → 1 ≤ (encode i).length ∧ (encode i).length ≤ 3

namespace EncodeLength

theorem encodeRegEa_length (base : Nat) (sz : Size) (r : Fin 8) (ea : Ea) :
    1 ≤ (encodeRegEa base sz r ea).length ∧ (encodeRegEa base sz r ea).length ≤ 3 := by
  have := ext_length sz ea
  simp only [encodeRegEa, List.length_cons]
  omega

theorem encodeEa_length (base : Nat) (sz : Size) (ea : Ea) :
    1 ≤ (encodeEa base sz ea).length ∧ (encodeEa base sz ea).length ≤ 3 := by
  have := ext_length sz ea
  simp only [encodeEa, List.length_cons]
  omega

theorem encodeOwnEa_length (base : Nat) (sz : Size) (w : Word) (ea : Ea) (h : (ea.ext sz).length ≤ 1) :
    1 ≤ (encodeOwnEa base sz w ea).length ∧ (encodeOwnEa base sz w ea).length ≤ 3 := by
  simp only [encodeOwnEa, List.length_cons]
  omega

theorem encodeMove_length (base : Nat) (sz : Size) (src dst : Ea) (h : movePair sz src dst = true) :
    1 ≤ (encodeMove base sz src dst).length ∧ (encodeMove base sz src dst).length ≤ 3 := by
  have := movePair_length sz src dst h
  simp only [encodeMove, List.length_cons, List.length_append]
  omega

theorem oriL (imm : Long) (dx : Fin 8) : Statement (.oriL imm dx) := by simp [Statement, encode, longWords]
theorem andiL (imm : Long) (dx : Fin 8) : Statement (.andiL imm dx) := by simp [Statement, encode, longWords]
theorem subiL (imm : Long) (dx : Fin 8) : Statement (.subiL imm dx) := by simp [Statement, encode, longWords]
theorem addiL (imm : Long) (dx : Fin 8) : Statement (.addiL imm dx) := by simp [Statement, encode, longWords]
theorem eoriL (imm : Long) (dx : Fin 8) : Statement (.eoriL imm dx) := by simp [Statement, encode, longWords]
theorem bitrev (dx : Fin 8) : Statement (.bitrev dx) := by simp [Statement, encode]
theorem byterev (dx : Fin 8) : Statement (.byterev dx) := by simp [Statement, encode]
theorem ff1 (dx : Fin 8) : Statement (.ff1 dx) := by simp [Statement, encode]
theorem btstImm (bn : Byte) (ea : Ea) : Statement (.btstImm bn ea) :=
  fun h => encodeOwnEa_length _ _ _ _ (ext_length_short _ _ h)
theorem bchgImm (bn : Byte) (ea : Ea) : Statement (.bchgImm bn ea) :=
  fun h => encodeOwnEa_length _ _ _ _ (ext_length_short _ _ h)
theorem bclrImm (bn : Byte) (ea : Ea) : Statement (.bclrImm bn ea) :=
  fun h => encodeOwnEa_length _ _ _ _ (ext_length_short _ _ h)
theorem bsetImm (bn : Byte) (ea : Ea) : Statement (.bsetImm bn ea) :=
  fun h => encodeOwnEa_length _ _ _ _ (ext_length_short _ _ h)
theorem btstReg (dy : Fin 8) (ea : Ea) : Statement (.btstReg dy ea) := fun _ => encodeRegEa_length _ _ _ _
theorem bchgReg (dy : Fin 8) (ea : Ea) : Statement (.bchgReg dy ea) := fun _ => encodeRegEa_length _ _ _ _
theorem bclrReg (dy : Fin 8) (ea : Ea) : Statement (.bclrReg dy ea) := fun _ => encodeRegEa_length _ _ _ _
theorem bsetReg (dy : Fin 8) (ea : Ea) : Statement (.bsetReg dy ea) := fun _ => encodeRegEa_length _ _ _ _
theorem cmpi (sz : Size) (imm : Long) (dx : Fin 8) : Statement (.cmpi sz imm dx) := by
  intro _
  have := immWords_length sz imm
  simp only [encode, List.length_cons]
  omega
theorem moveB (src dst : Ea) : Statement (.moveB src dst) := fun h => encodeMove_length _ _ _ _ h
theorem moveW (src dst : Ea) : Statement (.moveW src dst) := fun h => encodeMove_length _ _ _ _ h
theorem moveL (src dst : Ea) : Statement (.moveL src dst) := fun h => encodeMove_length _ _ _ _ h
theorem moveaW (src : Ea) (ax : Fin 8) : Statement (.moveaW src ax) := fun _ => encodeRegEa_length _ _ _ _
theorem moveaL (src : Ea) (ax : Fin 8) : Statement (.moveaL src ax) := fun _ => encodeRegEa_length _ _ _ _
theorem negx (dx : Fin 8) : Statement (.negx dx) := by simp [Statement, encode]
theorem moveFromSr (dx : Fin 8) : Statement (.moveFromSr dx) := by simp [Statement, encode]
theorem lea (src : Ea) (ax : Fin 8) : Statement (.lea src ax) := fun _ => encodeRegEa_length _ _ _ _
theorem clr (sz : Size) (ea : Ea) : Statement (.clr sz ea) := fun _ => encodeEa_length _ _ _
theorem moveFromCcr (dx : Fin 8) : Statement (.moveFromCcr dx) := by simp [Statement, encode]
theorem neg (dx : Fin 8) : Statement (.neg dx) := by simp [Statement, encode]
theorem moveToCcr (src : Ea) : Statement (.moveToCcr src) := fun _ => encodeEa_length _ _ _
theorem not (dx : Fin 8) : Statement (.not dx) := by simp [Statement, encode]
theorem moveToSr (src : Ea) : Statement (.moveToSr src) := fun _ => encodeEa_length _ _ _
theorem swap (dx : Fin 8) : Statement (.swap dx) := by simp [Statement, encode]
theorem pea (src : Ea) : Statement (.pea src) := fun _ => encodeEa_length _ _ _
theorem extW (dx : Fin 8) : Statement (.extW dx) := by simp [Statement, encode]
theorem extL (dx : Fin 8) : Statement (.extL dx) := by simp [Statement, encode]
theorem movemStore (mask : Word) (ea : Ea) : Statement (.movemStore mask ea) :=
  fun h => encodeOwnEa_length _ _ _ _ (ext_length_block _ _ h)
theorem extbL (dx : Fin 8) : Statement (.extbL dx) := by simp [Statement, encode]
theorem tst (sz : Size) (src : Ea) : Statement (.tst sz src) := fun _ => encodeEa_length _ _ _
theorem tas (ea : Ea) : Statement (.tas ea) := fun _ => encodeEa_length _ _ _
theorem halt : Statement (.halt) := by simp [Statement, encode]
theorem pulse : Statement (.pulse) := by simp [Statement, encode]
theorem illegal : Statement (.illegal) := by simp [Statement, encode]
theorem sats (dx : Fin 8) : Statement (.sats dx) := by simp [Statement, encode]
theorem movemLoad (mask : Word) (ea : Ea) : Statement (.movemLoad mask ea) :=
  fun h => encodeOwnEa_length _ _ _ _ (ext_length_block _ _ h)
theorem trap (v : Fin 16) : Statement (.trap v) := by simp [Statement, encode]
theorem link (ay : Fin 8) (d16 : Word) : Statement (.link ay d16) := by simp [Statement, encode]
theorem unlk (ax : Fin 8) : Statement (.unlk ax) := by simp [Statement, encode]
theorem moveToUsp (ay : Fin 8) : Statement (.moveToUsp ay) := by simp [Statement, encode]
theorem moveFromUsp (ax : Fin 8) : Statement (.moveFromUsp ax) := by simp [Statement, encode]
theorem nop : Statement (.nop) := by simp [Statement, encode]
theorem stop (imm : Word) : Statement (.stop imm) := by simp [Statement, encode]
theorem rte : Statement (.rte) := by simp [Statement, encode]
theorem rts : Statement (.rts) := by simp [Statement, encode]
theorem movec (rn : Fin 16) (rc : BitVec 12) : Statement (.movec rn rc) := by simp [Statement, encode]
theorem jsr (ea : Ea) : Statement (.jsr ea) := fun _ => encodeEa_length _ _ _
theorem jmp (ea : Ea) : Statement (.jmp ea) := fun _ => encodeEa_length _ _ _
theorem stldsr (imm : Word) : Statement (.stldsr imm) := by simp [Statement, encode]
theorem muluL (src : Ea) (dx : Fin 8) : Statement (.muluL src dx) :=
  fun h => encodeOwnEa_length _ _ _ _ (ext_length_short _ _ h)
theorem mulsL (src : Ea) (dx : Fin 8) : Statement (.mulsL src dx) :=
  fun h => encodeOwnEa_length _ _ _ _ (ext_length_short _ _ h)
theorem divuL (src : Ea) (dx : Fin 8) : Statement (.divuL src dx) :=
  fun h => encodeOwnEa_length _ _ _ _ (ext_length_short _ _ h)
theorem divsL (src : Ea) (dx : Fin 8) : Statement (.divsL src dx) :=
  fun h => encodeOwnEa_length _ _ _ _ (ext_length_short _ _ h)
theorem remuL (src : Ea) (dw dx : Fin 8) : Statement (.remuL src dw dx) :=
  fun h => encodeOwnEa_length _ _ _ _ (ext_length_short _ _ ((Bool.and_eq_true _ _).mp h).1)
theorem remsL (src : Ea) (dw dx : Fin 8) : Statement (.remsL src dw dx) :=
  fun h => encodeOwnEa_length _ _ _ _ (ext_length_short _ _ ((Bool.and_eq_true _ _).mp h).1)
theorem addq (q : Fin 8) (ea : Ea) : Statement (.addq q ea) := fun _ => encodeRegEa_length _ _ _ _
theorem subq (q : Fin 8) (ea : Ea) : Statement (.subq q ea) := fun _ => encodeRegEa_length _ _ _ _
theorem scc (c : Cond) (dx : Fin 8) : Statement (.scc c dx) := by simp [Statement, encode]
theorem tpf : Statement (.tpf) := by simp [Statement, encode]
theorem tpfW (w : Word) : Statement (.tpfW w) := by simp [Statement, encode]
theorem tpfL (w1 w2 : Word) : Statement (.tpfL w1 w2) := by simp [Statement, encode]
theorem bra (d : Disp) : Statement (.bra d) := fun _ => disp_length _ _
theorem bsr (d : Disp) : Statement (.bsr d) := fun _ => disp_length _ _
theorem bcc (c : Cond) (d : Disp) : Statement (.bcc c d) := fun _ => disp_length _ _
theorem moveq (d8 : Byte) (dx : Fin 8) : Statement (.moveq d8 dx) := by simp [Statement, encode]
theorem mvs (sz : Size) (src : Ea) (dx : Fin 8) : Statement (.mvs sz src dx) := fun _ => encodeRegEa_length _ _ _ _
theorem mvz (sz : Size) (src : Ea) (dx : Fin 8) : Statement (.mvz sz src dx) := fun _ => encodeRegEa_length _ _ _ _
theorem orEaDn (src : Ea) (dx : Fin 8) : Statement (.orEaDn src dx) := fun _ => encodeRegEa_length _ _ _ _
theorem orDnEa (dy : Fin 8) (dst : Ea) : Statement (.orDnEa dy dst) := fun _ => encodeRegEa_length _ _ _ _
theorem divuW (src : Ea) (dx : Fin 8) : Statement (.divuW src dx) := fun _ => encodeRegEa_length _ _ _ _
theorem divsW (src : Ea) (dx : Fin 8) : Statement (.divsW src dx) := fun _ => encodeRegEa_length _ _ _ _
theorem subEaDn (src : Ea) (dx : Fin 8) : Statement (.subEaDn src dx) := fun _ => encodeRegEa_length _ _ _ _
theorem subDnEa (dy : Fin 8) (dst : Ea) : Statement (.subDnEa dy dst) := fun _ => encodeRegEa_length _ _ _ _
theorem subx (dy dx : Fin 8) : Statement (.subx dy dx) := by simp [Statement, encode]
theorem suba (src : Ea) (ax : Fin 8) : Statement (.suba src ax) := fun _ => encodeRegEa_length _ _ _ _
theorem cmp (sz : Size) (src : Ea) (dx : Fin 8) : Statement (.cmp sz src dx) := fun _ => encodeRegEa_length _ _ _ _
theorem cmpaW (src : Ea) (ax : Fin 8) : Statement (.cmpaW src ax) := fun _ => encodeRegEa_length _ _ _ _
theorem cmpaL (src : Ea) (ax : Fin 8) : Statement (.cmpaL src ax) := fun _ => encodeRegEa_length _ _ _ _
theorem eor (dy : Fin 8) (dst : Ea) : Statement (.eor dy dst) := fun _ => encodeRegEa_length _ _ _ _
theorem andEaDn (src : Ea) (dx : Fin 8) : Statement (.andEaDn src dx) := fun _ => encodeRegEa_length _ _ _ _
theorem andDnEa (dy : Fin 8) (dst : Ea) : Statement (.andDnEa dy dst) := fun _ => encodeRegEa_length _ _ _ _
theorem muluW (src : Ea) (dx : Fin 8) : Statement (.muluW src dx) := fun _ => encodeRegEa_length _ _ _ _
theorem mulsW (src : Ea) (dx : Fin 8) : Statement (.mulsW src dx) := fun _ => encodeRegEa_length _ _ _ _
theorem addEaDn (src : Ea) (dx : Fin 8) : Statement (.addEaDn src dx) := fun _ => encodeRegEa_length _ _ _ _
theorem addDnEa (dy : Fin 8) (dst : Ea) : Statement (.addDnEa dy dst) := fun _ => encodeRegEa_length _ _ _ _
theorem addx (dy dx : Fin 8) : Statement (.addx dy dx) := by simp [Statement, encode]
theorem adda (src : Ea) (ax : Fin 8) : Statement (.adda src ax) := fun _ => encodeRegEa_length _ _ _ _
theorem mov3q (q : Fin 8) (dst : Ea) : Statement (.mov3q q dst) := fun _ => encodeRegEa_length _ _ _ _
theorem asl (cnt : ShiftCount) (dx : Fin 8) : Statement (.asl cnt dx) := by simp [Statement, encode]
theorem asr (cnt : ShiftCount) (dx : Fin 8) : Statement (.asr cnt dx) := by simp [Statement, encode]
theorem lsl (cnt : ShiftCount) (dx : Fin 8) : Statement (.lsl cnt dx) := by simp [Statement, encode]
theorem lsr (cnt : ShiftCount) (dx : Fin 8) : Statement (.lsr cnt dx) := by simp [Statement, encode]
theorem cpushl (cache : CacheSel) (ax : Fin 8) : Statement (.cpushl cache ax) := by simp [Statement, encode]
theorem intouch (ay : Fin 8) : Statement (.intouch ay) := by simp [Statement, encode]
theorem wddata (sz : Size) (src : Ea) : Statement (.wddata sz src) := fun _ => encodeEa_length _ _ _
theorem wdebug (src : Ea) : Statement (.wdebug src) := fun h => encodeOwnEa_length _ _ _ _ (ext_length_block _ _ h)

end EncodeLength

end Sys2Proof.Laws
end

