-- ==== Sys2Proof/Laws/Step.lean ====
section
/-! SUPPORT. What a boundary of a running core comes to, and what a fetch and a refused access come to. -/

namespace Sys2Proof.Machine

-- One theorem after another: elaborating them side by side takes a thread each, and no less time.
set_option Elab.async false

/-! The boundary. -/

@[simp] theorem State.pastBoundary_pc (s : State) : s.pastBoundary.pc = s.pc := by unfold State.pastBoundary; split <;> rfl
@[simp] theorem State.pastBoundary_sr (s : State) : s.pastBoundary.sr = s.sr := by unfold State.pastBoundary; split <;> rfl
@[simp] theorem State.pastBoundary_cfg (s : State) : s.pastBoundary.cfg = s.cfg := by unfold State.pastBoundary; split <;> rfl
@[simp] theorem State.pastBoundary_mem (s : State) : s.pastBoundary.mem = s.mem := by unfold State.pastBoundary; split <;> rfl
@[simp] theorem State.pastBoundary_trace (s : State) : s.pastBoundary.trace = s.trace := by simp [State.trace]

/-- Without an interrupt the boundary runs the instruction. -/
theorem runBoundary_noInterrupt (s : State) (h : s.noInterrupt) : runBoundary s = runInstruction s.pastBoundary := by
  unfold runBoundary State.pastBoundary
  cases hi : s.inhibit
  · simp only [Bool.false_eq_true, if_false]
    cases hq : s.request with
    | none => rfl
    | some r =>
      rcases h r hq with g | g
      · rw [hi] at g
        cases g
      · simp [g]
  · rfl

/-- A step of a running core without a write fault to report and without an interrupt runs the instruction. -/
theorem step_noInterrupt (s : State) (hr : s.run = .running) (hw : s.writeFaults = []) (h : s.noInterrupt) :
    step s = runInstruction s.pastBoundary := by
  rw [← runBoundary_noInterrupt s h]
  simp [step, cycle, runStep, hr, hw]

/-- A fetch looks at nothing that a boundary changes. -/
theorem fetchInstr_pastBoundary (s : State) : fetchInstr { s.pastBoundary with inhibit := false } = fetchInstr s := by
  unfold State.pastBoundary
  split <;> rfl

/-- With its words within reach an opcode is recognized or found unassigned. -/
theorem fetchInstr_ready (s : State) (h : s.opcodeReady) : fetchInstr s = recognize s := by
  obtain ⟨⟨h1, h2, h3⟩, h4⟩ := h
  simp only [fetchInstr, fetchSecond, h1, h2, h3, Bool.false_eq_true, if_false]
  split
  · rename_i g
    simp [h4 g]
  · rfl

/-! Extension words. -/

theorem fetchExt_append (off m n : Nat) (s : State) :
    fetchExt off (m + n) s = (fetchExt off m s).bind fun _ s => fetchExt (off + m) n s := by
  induction m generalizing off with
  | zero => simp [fetchExt]
  | succ m ih =>
    rw [Nat.succ_add]
    rcases fetchCheck_cases (s.pc + 2#32 * BitVec.ofNat 32 off) s with h | h | h
    · simp only [fetchExt, h, Res.bind_ok, ih (off + 1)]
      rw [Nat.add_assoc, Nat.add_comm 1 m]
    · simp [fetchExt, h]
    · simp [fetchExt, h]

/-- The first word that cannot be fetched raises the access error, the state unchanged. -/
theorem fetchExt_refused (off n k : Nat) (s : State) (hk : k < n) (hr : extReady off k s = true)
    (h : s.refuses .fetch (s.pc + 2#32 * BitVec.ofNat 32 (off + k)) 2 = true) :
    fetchExt off n s = .raise (.accessError 4#4) s := by
  obtain ⟨j, rfl⟩ : ∃ j, n = k + (j + 1) := ⟨n - k - 1, by omega⟩
  rw [fetchExt_append, fetchExt_ok off k s hr, Res.bind_ok]
  simp [fetchExt, fetchCheck, h]

/-- The first word that the run stored to and did not synchronize stops the model. -/
theorem fetchExt_dirty (off n k : Nat) (s : State) (hk : k < n) (hr : extReady off k s = true)
    (hf : s.refuses .fetch (s.pc + 2#32 * BitVec.ofNat 32 (off + k)) 2 = false)
    (h : s.dirty (s.pc + 2#32 * BitVec.ofNat 32 (off + k)) = true) : fetchExt off n s = .refuse .selfModified := by
  obtain ⟨j, rfl⟩ : ∃ j, n = k + (j + 1) := ⟨n - k - 1, by omega⟩
  rw [fetchExt_append, fetchExt_ok off k s hr, Res.bind_ok]
  simp [fetchExt, fetchCheck, h, hf]

/-! Control modes. -/

/-- A control mode updates no register. -/
theorem eaUpdate_of_control (sz : Size) (ea : Ea) (s : State) (h : ea.control = true) : eaUpdate sz ea s = s := by
  cases ea <;> first | rfl | cases h

/-! Refused writes. -/

/-- A refused write under `precise` raises its access error, the state unchanged. -/
theorem storeMem_precise (a : Long) (sz : Size) (v : Long) (s : State) (r : Region)
    (h : s.refusing .write a sz.bytes = some r) (hm : s.cfg.writeFaultMode = .precise) :
    storeMem a sz v s = .raise (.accessError (writeStatus r)) s := by
  simp [storeMem, h, hm]

/-- A refused write under `imprecise` is dropped, and its fault waits. -/
theorem storeMem_imprecise (a : Long) (sz : Size) (v : Long) (s : State) (r : Region)
    (h : s.refusing .write a sz.bytes = some r) (hm : s.cfg.writeFaultMode = .imprecise) :
    storeMem a sz v s = .ok () { s with writeFaults := s.writeFaults ++ [writeStatus r] } := by
  simp [storeMem, h, hm]

end Sys2Proof.Machine
end

