-- ==== Sys2Proof/Tests/Slice0.lean ====
section
/-! SUPPORT. Tests: ill-formed terms refused, words written out from the encoding tables decoded, single steps with results from
spec/95_test_vectors.md and the examples of the rules, and for each statement with hypotheses a state that meets them. -/

open Sys2Proof Sys2Proof.Machine

namespace Sys2Proof.Tests

-- One theorem after another: elaborating them side by side takes a thread each, and no less time.
set_option Elab.async false

/-! WellFormed: one ill-formed term or more for each check. -/

theorem test_wf_immediates :
    Instr.wf (.cmpi .byte 0x100#32 0) = false ∧ Instr.wf (.cmpi .word 0x10000#32 0) = false ∧
    Instr.wf (.moveB (.imm 0x100#32) (.dreg 0)) = false ∧ Instr.wf (.moveaW (.imm 0x10000#32) 0) = false ∧
    Instr.wf (.divuW (.imm 0x10000#32) 0) = false ∧ Instr.wf (.moveToCcr (.imm 0x100#32)) = false ∧
    Instr.wf (.moveToSr (.imm 0x10000#32)) = false := by decide

theorem test_wf_bit_operands :
    Instr.wf (.btstImm 0#8 (.absW 0#16)) = false ∧ Instr.wf (.bchgImm 0#8 (.index 0 0#16)) = false ∧
    Instr.wf (.bclrImm 0#8 (.areg 0)) = false ∧ Instr.wf (.bsetImm 0#8 (.imm 0#32)) = false ∧
    Instr.wf (.btstReg 0 (.imm 0#32)) = false ∧ Instr.wf (.btstReg 0 (.areg 0)) = false ∧
    Instr.wf (.bchgReg 0 (.pcDisp 0#16)) = false ∧ Instr.wf (.bclrReg 0 (.areg 0)) = false ∧
    Instr.wf (.bsetReg 0 (.pcIndex 0#16)) = false := by decide

theorem test_wf_move_pairs :
    Instr.wf (.moveB (.areg 0) (.dreg 0)) = false ∧ Instr.wf (.moveL (.dreg 0) (.areg 0)) = false ∧
    Instr.wf (.moveL (.dreg 0) (.pcDisp 0#16)) = false ∧ Instr.wf (.moveW (.disp 0 0#16) (.absW 0#16)) = false ∧
    Instr.wf (.moveL (.pcDisp 0#16) (.index 0 0#16)) = false ∧ Instr.wf (.moveL (.imm 0#32) (.disp 0 0#16)) = false ∧
    Instr.wf (.moveB (.imm 0#32) (.absL 0#32)) = false ∧ Instr.wf (.moveL (.index 0 0#16) (.disp 0 0#16)) = false ∧
    Instr.wf (.moveL (.absL 0#32) (.absL 0#32)) = false ∧ Instr.wf (.moveW (.imm 0#32) (.disp 0 0#16)) = true := by decide

theorem test_wf_operand_modes :
    Instr.wf (.lea (.dreg 0) 0) = false ∧ Instr.wf (.lea (.postinc 0) 0) = false ∧ Instr.wf (.pea (.predec 0)) = false ∧
    Instr.wf (.jmp (.imm 0#32)) = false ∧ Instr.wf (.jsr (.areg 0)) = false ∧ Instr.wf (.clr .long (.areg 0)) = false ∧
    Instr.wf (.moveToCcr (.ind 0)) = false ∧ Instr.wf (.moveToSr (.areg 0)) = false ∧
    Instr.wf (.movemStore 1#16 (.postinc 0)) = false ∧ Instr.wf (.movemLoad 1#16 (.absL 0#32)) = false ∧
    Instr.wf (.tst .byte (.areg 0)) = false ∧ Instr.wf (.cmp .byte (.areg 0) 0) = false ∧
    Instr.wf (.tas (.dreg 0)) = false ∧ Instr.wf (.addq 1 (.pcDisp 0#16)) = false ∧ Instr.wf (.subq 1 (.imm 0#32)) = false ∧
    Instr.wf (.mov3q 1 (.pcIndex 0#16)) = false ∧ Instr.wf (.wddata .byte (.dreg 0)) = false ∧
    Instr.wf (.wdebug (.postinc 0)) = false := by decide

theorem test_wf_arithmetic_modes :
    Instr.wf (.muluL (.areg 0) 0) = false ∧ Instr.wf (.mulsL (.absW 0#16) 0) = false ∧ Instr.wf (.divuL (.imm 0#32) 0) = false ∧
    Instr.wf (.divsL (.index 0 0#16) 0) = false ∧ Instr.wf (.remuL (.dreg 0) 1 1) = false ∧
    Instr.wf (.remsL (.dreg 0) 1 1) = false ∧ Instr.wf (.orEaDn (.areg 0) 0) = false ∧ Instr.wf (.orDnEa 0 (.dreg 1)) = false ∧
    Instr.wf (.andEaDn (.areg 0) 0) = false ∧ Instr.wf (.andDnEa 0 (.pcDisp 0#16)) = false ∧
    Instr.wf (.subDnEa 0 (.dreg 1)) = false ∧ Instr.wf (.addDnEa 0 (.areg 1)) = false ∧ Instr.wf (.eor 0 (.areg 1)) = false ∧
    Instr.wf (.divsW (.areg 0) 0) = false ∧ Instr.wf (.muluW (.areg 0) 0) = false ∧ Instr.wf (.mulsW (.areg 0) 0) = false := by
  decide

theorem test_wf_sizes_and_conditions :
    Instr.wf (.mvs .long (.dreg 0) 0) = false ∧ Instr.wf (.mvz .long (.dreg 0) 0) = false ∧
    Instr.wf (.mvs .byte (.areg 0) 0) = false ∧ Instr.wf (.bra (.byte 0#8)) = false ∧ Instr.wf (.bsr (.byte 0xFF#8)) = false ∧
    Instr.wf (.bcc .t (.word 0#16)) = false ∧ Instr.wf (.bcc .f (.word 0#16)) = false := by decide

/-! Decode: words written out from the encoding tables R101 to R111. -/

/-- Each list of words decodes to the instruction beside it, no word left over. -/
def readsAll (table : List (List Word × Instr)) : Bool := table.all fun c => decide (decode c.1 = .ok (c.2, []))


theorem test_decode_line0 :
    readsAll [
     ([0x0081#16, 0x1234#16, 0x5678#16], .oriL 0x12345678#32 1),
     ([0x0281#16, 0x1234#16, 0x5678#16], .andiL 0x12345678#32 1),
     ([0x0481#16, 0x1234#16, 0x5678#16], .subiL 0x12345678#32 1),
     ([0x0681#16, 0x1234#16, 0x5678#16], .addiL 0x12345678#32 1),
     ([0x0A81#16, 0x1234#16, 0x5678#16], .eoriL 0x12345678#32 1), ([0x00C1#16], .bitrev 1), ([0x02C1#16], .byterev 1),
     ([0x04C1#16], .ff1 1), ([0x0C01#16, 0x00FE#16], .cmpi .byte 0xFE#32 1),
     ([0x0C41#16, 0x8001#16], .cmpi .word 0x8001#32 1),
     ([0x0C81#16, 0x8001#16, 0x0002#16], .cmpi .long 0x80010002#32 1)] = true := by decide

theorem test_decode_bit_instructions :
    readsAll [
     ([0x0829#16, 0x0007#16, 0x8001#16], .btstImm 7#8 (.disp 1 0x8001#16)),
     ([0x0851#16, 0x0007#16], .bchgImm 7#8 (.ind 1)), ([0x0899#16, 0x0007#16], .bclrImm 7#8 (.postinc 1)),
     ([0x08E1#16, 0x0007#16], .bsetImm 7#8 (.predec 1)), ([0x073A#16, 0x0004#16], .btstReg 3 (.pcDisp 4#16)),
     ([0x0741#16], .bchgReg 3 (.dreg 1)), ([0x0791#16], .bclrReg 3 (.ind 1)),
     ([0x07F8#16, 0x8000#16], .bsetReg 3 (.absW 0x8000#16))] = true := by decide

theorem test_decode_moves :
    readsAll [
     ([0x1481#16], .moveB (.dreg 1) (.ind 2)),
     ([0x3569#16, 0x0004#16, 0x0008#16], .moveW (.disp 1 4#16) (.disp 2 8#16)),
     ([0x2239#16, 0x0001#16, 0x2344#16], .moveL (.absL 0x00012344#32) (.dreg 1)), ([0x3451#16], .moveaW (.ind 1) 2),
     ([0x244F#16], .moveaL (.areg 7) 2), ([0x45FB#16, 0x0804#16], .lea (.pcIndex 0x0804#16) 2),
     ([0x7685#16], .moveq 0x85#8 3), ([0x7701#16], .mvs .byte (.dreg 1) 3), ([0x7741#16], .mvs .word (.dreg 1) 3),
     ([0x7781#16], .mvz .byte (.dreg 1) 3), ([0x77C1#16], .mvz .word (.dreg 1) 3), ([0xA741#16], .mov3q 3 (.dreg 1))] = true := by decide

theorem test_decode_line4_register :
    readsAll [
     ([0x4083#16], .negx 3), ([0x40C3#16], .moveFromSr 3), ([0x4211#16], .clr .byte (.ind 1)),
     ([0x4251#16], .clr .word (.ind 1)), ([0x4291#16], .clr .long (.ind 1)), ([0x42C3#16], .moveFromCcr 3),
     ([0x4483#16], .neg 3), ([0x44FC#16, 0x001F#16], .moveToCcr (.imm 0x1F#32)), ([0x4683#16], .not 3),
     ([0x46FC#16, 0x2700#16], .moveToSr (.imm 0x2700#32)), ([0x4843#16], .swap 3), ([0x4851#16], .pea (.ind 1)),
     ([0x4883#16], .extW 3), ([0x48C3#16], .extL 3), ([0x49C3#16], .extbL 3), ([0x4A03#16], .tst .byte (.dreg 3)),
     ([0x4A43#16], .tst .word (.dreg 3)), ([0x4A83#16], .tst .long (.dreg 3)), ([0x4AD1#16], .tas (.ind 1)),
     ([0x4C83#16], .sats 3)] = true := by decide

theorem test_decode_line4_control :
    readsAll [
     ([0x48D1#16, 0x8001#16], .movemStore 0x8001#16 (.ind 1)),
     ([0x4CE9#16, 0x8001#16, 0x0010#16], .movemLoad 0x8001#16 (.disp 1 0x10#16)), ([0x4AC8#16], .halt),
     ([0x4ACC#16], .pulse), ([0x4AFC#16], .illegal), ([0x4E45#16], .trap 5),
     ([0x4E53#16, 0xFFF8#16], .link 3 0xFFF8#16), ([0x4E5B#16], .unlk 3), ([0x4E63#16], .moveToUsp 3),
     ([0x4E6B#16], .moveFromUsp 3), ([0x4E71#16], .nop), ([0x4E72#16, 0x2700#16], .stop 0x2700#16), ([0x4E73#16], .rte),
     ([0x4E75#16], .rts), ([0x4E7B#16, 0x9801#16], .movec 9 0x801#12), ([0x4E91#16], .jsr (.ind 1)),
     ([0x4ED1#16], .jmp (.ind 1)), ([0x40E7#16, 0x46FC#16, 0x2700#16], .stldsr 0x2700#16)] = true := by decide

theorem test_decode_multiply_divide :
    readsAll [
     ([0x4C01#16, 0x2000#16], .muluL (.dreg 1) 2), ([0x4C01#16, 0x2800#16], .mulsL (.dreg 1) 2),
     ([0x4C41#16, 0x2002#16], .divuL (.dreg 1) 2), ([0x4C41#16, 0x2802#16], .divsL (.dreg 1) 2),
     ([0x4C41#16, 0x2003#16], .remuL (.dreg 1) 3 2), ([0x4C41#16, 0x2803#16], .remsL (.dreg 1) 3 2),
     ([0x86C1#16], .divuW (.dreg 1) 3), ([0x87C1#16], .divsW (.dreg 1) 3), ([0xC6C1#16], .muluW (.dreg 1) 3),
     ([0xC7C1#16], .mulsW (.dreg 1) 3)] = true := by decide

theorem test_decode_lines5_6 :
    readsAll [
     ([0x5691#16], .addq 3 (.ind 1)), ([0x5789#16], .subq 3 (.areg 1)), ([0x57C3#16], .scc .eq 3), ([0x51FC#16], .tpf),
     ([0x51FA#16, 0x1234#16], .tpfW 0x1234#16), ([0x51FB#16, 0x1234#16, 0x5678#16], .tpfL 0x1234#16 0x5678#16),
     ([0x6004#16], .bra (.byte 4#8)), ([0x6100#16, 0x0100#16], .bsr (.word 0x100#16)),
     ([0x67FF#16, 0x0001#16, 0x0002#16], .bcc .eq (.long 0x00010002#32))] = true := by decide

theorem test_decode_two_operands :
    readsAll [
     ([0x8691#16], .orEaDn (.ind 1) 3), ([0x8791#16], .orDnEa 3 (.ind 1)), ([0x9691#16], .subEaDn (.ind 1) 3),
     ([0x9791#16], .subDnEa 3 (.ind 1)), ([0x9781#16], .subx 1 3), ([0x97C9#16], .suba (.areg 1) 3),
     ([0xB601#16], .cmp .byte (.dreg 1) 3), ([0xB641#16], .cmp .word (.dreg 1) 3),
     ([0xB681#16], .cmp .long (.dreg 1) 3), ([0xB6C1#16], .cmpaW (.dreg 1) 3), ([0xB7C1#16], .cmpaL (.dreg 1) 3),
     ([0xB781#16], .eor 3 (.dreg 1)), ([0xC691#16], .andEaDn (.ind 1) 3), ([0xC791#16], .andDnEa 3 (.ind 1)),
     ([0xD691#16], .addEaDn (.ind 1) 3), ([0xD791#16], .addDnEa 3 (.ind 1)), ([0xD781#16], .addx 1 3),
     ([0xD7C9#16], .adda (.areg 1) 3)] = true := by decide

theorem test_decode_lines_e_f :
    readsAll [
     ([0xE781#16], .asl (.imm 3) 1), ([0xE6A1#16], .asr (.reg 3) 1), ([0xE789#16], .lsl (.imm 3) 1),
     ([0xE6A9#16], .lsr (.reg 3) 1), ([0xF469#16], .cpushl .dc 1), ([0xF4A9#16], .cpushl .ic 1),
     ([0xF4E9#16], .cpushl .bc 1), ([0xF429#16], .intouch 1), ([0xFB11#16], .wddata .byte (.ind 1)),
     ([0xFB51#16], .wddata .word (.ind 1)), ([0xFB91#16], .wddata .long (.ind 1)),
     ([0xFBD1#16, 0x0003#16], .wdebug (.ind 1))] = true := by decide

theorem test_decode_refused :
    decode [0x1008#16] = .error .unassigned ∧ decode [0x4AC0#16] = .error .unassigned ∧
    decode [0x4E7A#16, 0x0801#16] = .error .unassigned ∧ decode [0xE041#16] = .error .unassigned ∧
    decode [0x0000#16, 0x0000#16] = .error .unassigned := by decide

/-- The table's numbering: the first word in the low bits. -/
theorem test_decodeTableWord :
    decodeTableWord 16 0x2001 = some (.moveL (.dreg 1) (.dreg 0)) ∧
    decodeTableWord 32 0x28004C01 = some (.mulsL (.dreg 1) 2) ∧
    decodeTableWord 16 0x4EB9 = some (.jsr (.absL 0#32)) := by decide

/-! Single steps. The expected values stand in spec/95_test_vectors.md and in the examples of the instruction rules. -/

/-- A small machine: supervisor mode, code at 0x1000, both stack pointers apart, CACR[EUSP] set. -/
def rig : State :=
  { State.reset with
    a := #v[0x4000#32, 0x4010#32, 0x4020#32, 0x4030#32, 0x4040#32, 0x4050#32, 0x4060#32]
    ssp := 0x2000#32
    usp := 0x3000#32
    pc := 0x1000#32
    cacr := 0x10#32
    firstFetch := none }

/-- The machine with the words of an instruction at its program counter. -/
def withCode (s : State) (ws : List Word) : State :=
  { s with mem := (ws.zipIdx).foldl (fun m c => storeOf m (s.pc + 2#32 * BitVec.ofNat 32 c.2) .word (c.1.setWidth 32)) s.mem }

/-- The machine with a longword in memory. -/
def withLong (s : State) (a v : Long) : State := { s with mem := storeOf s.mem a .long v }

/-- The machine in user mode. -/
def inUser (s : State) : State := { s with sr := s.sr &&& 0xDFFF#16 }

/-- `exec` answers a next state with the property. -/
def after (i : Instr) (s : State) (p : State → Bool) : Bool :=
  match exec i s with
  | .next t => p t
  | _ => false

/-- `step` answers a next state with the property. -/
def stepsTo (s : State) (p : State → Bool) : Bool :=
  match step s with
  | .next t => p t
  | _ => false

theorem test_add_overflow_flags :
    after (.addEaDn (.dreg 1) 0) ((rig.setD 0 0x7FFFFFFF#32).setD 1 1#32)
      (fun t => t.getD 0 == 0x80000000#32 && t.flags == ⟨false, true, false, true, false⟩) = true := by decide

theorem test_subx_keeps_z :
    after (.subx 1 0) ((rig.setFlags ⟨true, false, true, false, false⟩).setD 0 1#32)
      (fun t => t.getD 0 == 0#32 && t.flags == ⟨false, false, true, false, false⟩) = true := by decide

theorem test_move_byte_keeps_upper :
    after (.moveB (.dreg 1) (.dreg 0)) ((rig.setD 0 0x12345678#32).setD 1 0xAABBCC00#32)
      (fun t => t.getD 0 == 0x12345600#32 && t.flags == ⟨false, false, true, false, false⟩) = true := by decide

theorem test_move_predecrement_stores_old_register :
    after (.moveL (.areg 0) (.predec 0)) rig
      (fun t => t.load 0x3FFC#32 .long == 0x4000#32 && t.getA 0 == 0x3FFC#32) = true := by decide

theorem test_divs_word_negative :
    after (.divsW (.dreg 1) 0) ((rig.setD 0 0xFFFFFFF9#32).setD 1 2#32)
      (fun t => t.getD 0 == 0xFFFFFFFD#32 && t.flags == ⟨false, true, false, false, false⟩) = true := by decide

theorem test_remu_flags_describe_quotient :
    after (.remuL (.dreg 1) 2 0) ((rig.setD 0 7#32).setD 1 2#32) (fun t => t.getD 2 == 1#32 && t.getD 0 == 7#32) = true := by
  decide

set_option maxRecDepth 4000 in
theorem test_shift_by_register_modulo_64 :
    after (.lsr (.reg 1) 0) ((rig.setD 0 0x80000000#32).setD 1 0x60#32)
      (fun t => t.getD 0 == 0#32 && t.flags == ⟨true, false, true, false, true⟩) = true := by decide

set_option maxRecDepth 4000 in
theorem test_asr_by_63 :
    after (.asr (.reg 1) 0) ((rig.setD 0 0x80000000#32).setD 1 63#32)
      (fun t => t.getD 0 == 0xFFFFFFFF#32 && t.flags == ⟨true, true, false, false, true⟩) = true := by decide

theorem test_sats :
    after (.sats 0) ((rig.setFlags ⟨false, false, false, true, false⟩).setD 0 0x80000000#32)
      (fun t => t.getD 0 == 0x7FFFFFFF#32 && t.flags == ⟨false, false, false, false, false⟩) = true := by decide

theorem test_ff1 :
    after (.ff1 0) (rig.setD 0 0x00010000#32) (fun t => t.getD 0 == 15#32) = true ∧
    after (.ff1 0) rig (fun t => t.getD 0 == 32#32 && t.flags.z) = true := by decide

theorem test_bit_number_modulo_32 :
    after (.bsetReg 1 (.dreg 0)) (rig.setD 1 33#32) (fun t => t.getD 0 == 2#32 && t.flags.z) = true := by decide

theorem test_movem_store_order :
    after (.movemStore 0x0103#16 (.ind 7)) ((rig.setD 0 1#32).setD 1 2#32)
      (fun t => t.load 0x2000#32 .long == 1#32 && t.load 0x2004#32 .long == 2#32 && t.load 0x2008#32 .long == 0x4000#32 &&
        t.getA 7 == 0x2000#32) = true := by decide

theorem test_link_then_unlk :
    after (.link 6 0xFFF8#16) rig
      (fun t => t.getA 6 == 0x1FFC#32 && t.sp == 0x1FF4#32 && t.load 0x1FFC#32 .long == 0x4060#32 &&
        after (.unlk 6) t (fun u => u.getA 6 == 0x4060#32 && u.sp == 0x2000#32)) = true := by decide

theorem test_jsr_through_the_stack_pointer :
    after (.jsr (.ind 7)) rig
      (fun t => t.pc == 0x2000#32 && t.sp == 0x1FFC#32 && t.load 0x1FFC#32 .long == 0x1002#32) = true := by decide

theorem test_trap_from_user_mode :
    stepsTo (withLong (withCode (inUser rig) [0x4E41#16]) 0x84#32 0x6000#32)
      (fun t => t.pc == 0x6000#32 && t.supervisor && t.ssp == 0x1FF8#32 && t.usp == 0x3000#32 &&
        t.load 0x1FF8#32 .long == 0x40840700#32 && t.load 0x1FFC#32 .long == 0x1002#32) = true := by decide

theorem test_frame_of_a_misaligned_stack :
    after (.trap 0) { rig with ssp := 0x2003#32 }
      (fun t => t.sp == 0x1FF8#32 && (t.load 0x1FF8#32 .long).extractLsb' 16 16 == 0x7080#16 &&
        after .rte t (fun u => u.sp == 0x2003#32 && u.pc == 0x1002#32)) = true := by decide

theorem test_interrupt_taken_before_the_instruction :
    stepsTo (withCode { rig with sr := 0x3000#16, irq := [some ⟨3#3, 64#8⟩] } [0x4E71#16])
      (fun t => t.sr == 0x2300#16 && t.load 0x1FFC#32 .long == 0x1000#32 && t.inhibit) = true := by decide

theorem test_trace_after_the_instruction :
    stepsTo (withCode { rig with sr := 0xA000#16 } [0x51FC#16])
      (fun t => t.sr == 0x2000#16 && t.load 0x1FFC#32 .long == 0x1002#32 &&
        t.load 0x1FF8#32 .long == 0x4024A000#32) = true := by decide

theorem test_movec_vbr_keeps_upper_bits :
    after (.movec 0 0x801#12) (rig.setD 0 0x12345678#32) (fun t => t.vbr == 0x12300000#32 && t.pc == 0x1004#32) = true := by
  decide

/-- 0xFBC0 is no mode of WDEBUG, so it is a line-F opword whatever stands in the next word (R386); 0xFBD0 has one. -/
theorem test_line_f_judged_alone :
    let cfg := { Config.default with platform := [⟨0x1002, 2, true, false, false, true, true, false⟩] }
    let s := { rig with cfg := cfg, ssp := 0x3000#32 }
    stepsTo (withCode s [0xFBC0#16]) (fun t => (t.load 0x2FF8#32 .long).extractLsb' 18 8 == 11#8) = true ∧
    stepsTo (withCode s [0xFBD0#16]) (fun t => (t.load 0x2FF8#32 .long).extractLsb' 18 8 == 2#8) = true := by decide

theorem test_reset_sequence_of_empty_memory : resetSequence State.reset = State.reset := by decide

theorem test_with_fetch_word_runs :
    stepsTo (State.reset.withFetchWord 16 0x7605) (fun t => t.getD 3 == 5#32 && t.pc == 2#32) = true := by decide

/-! Witnesses: for each statement with hypotheses a state and operands that meet them together. -/

/-- The small machine with four bytes at 0x5000 that refuse every access. -/
def walled : State := { rig with cfg := { Config.default with platform := [⟨0x5000, 4, true, true, true, true, true, false⟩] } }

/-- The same where a refused write is reported later. -/
def late : State := { walled with cfg := { walled.cfg with writeFaultMode := .imprecise } }

/-- The small machine with address 0 refused. -/
def noVectors : State := { rig with cfg := { Config.default with platform := [⟨0, 4, false, true, true, true, true, true⟩] } }

theorem witness_rig_inv : rig.Inv :=
  ⟨by decide, by decide, by decide, by decide, by decide⟩

theorem witness_DecodeEncodeAgree :
    Instr.wf (.remsL (.disp 7 0xFFFF#16) 2 0) = true ∧ Instr.wf (.moveW (.imm 0xFFFF#32) (.disp 7 0#16)) = true := by decide

theorem witness_StepKeepsInvariant : State.reset.Inv ∧ stepsTo (withCode rig [0x4E71#16]) (fun _ => true) = true :=
  ⟨⟨by decide, by decide, by decide, by decide, by decide⟩, by decide⟩

theorem witness_ResetSequence :
    ((resetRegisters rig).refuses .read 0#32 4 = false ∧ (resetRegisters rig).refuses .read 4#32 4 = false) ∧
    (resetRegisters noVectors).refuses .read 0#32 4 = true ∧
    (let s := { rig with cfg := { Config.default with platform := [⟨4, 4, false, true, false, true, true, false⟩] } }
     (resetRegisters s).refuses .read 0#32 4 = false ∧ (resetRegisters s).refuses .read 4#32 4 = true) := by decide

/-- A one-word opcode with a masked request at the boundary. -/
theorem witness_StepRunsDecodedInstruction :
    let s := withCode { rig with irq := [some ⟨6#3, 64#8⟩] } [0x7605#16]
    s.run = .running ∧ s.writeFaults = [] ∧ s.request = some ⟨6#3, 64#8⟩ ∧ acceptable s ⟨6#3, 64#8⟩ = false ∧
    s.pc.getLsbD 0 = false ∧ s.refuses .fetch s.pc 2 = false ∧ s.dirty s.pc = false ∧
    needsSecondWord (s.word s.pc).toNat = false ∧
    (match decode (s.words s.pc) with
      | .ok (i, _) => decide (i = .moveq 5#8 3)
      | .error _ => false) = true ∧
    assigned s.cfg (.moveq 5#8 3) = true := by decide

/-- An opcode with a second word, with sampling inhibited and an acceptable request. -/
theorem witness_StepRunsDecodedInstruction_second_word :
    let s := withCode { rig with inhibit := true, irq := [some ⟨7#3, 64#8⟩] } [0x4C01#16, 0x2800#16]
    s.run = .running ∧ s.writeFaults = [] ∧ s.inhibit = true ∧ s.pc.getLsbD 0 = false ∧
    s.refuses .fetch s.pc 2 = false ∧ s.dirty s.pc = false ∧ needsSecondWord (s.word s.pc).toNat = true ∧
    s.refuses .fetch (s.pc + 2#32) 2 = false ∧ s.dirty (s.pc + 2#32) = false ∧
    (match decode (s.words s.pc) with
      | .ok (i, _) => decide (i = .mulsL (.dreg 1) 2)
      | .error _ => false) = true ∧
    assigned s.cfg (.mulsL (.dreg 1) 2) = true := by decide

theorem witness_StepNeverFaults : stepsTo (withCode rig [0x4E71#16]) (fun _ => true) = true := by decide

theorem witness_MixedWidthView :
    rig.refuses .write (rig.getA 0) 1 = false ∧ rig.refuses .write (rig.getA 0) 4 = false ∧
    rig.refuses .read (rig.getA 0) 1 = false := by decide

theorem witness_MoveCompletes :
    (Ea.predec 0).dataAlterable = true ∧ sourceReady .word 1 (.postinc 0) rig = true ∧
    destReady .word (1 + eaWords .word (.postinc 0)) (.predec 0) (eaUpdate .word (.postinc 0) rig) = true := by decide

/-- The longest pair: an absolute source and a displacement destination of the table's limit. -/
theorem witness_MoveCompletes_three_words :
    (Ea.disp 1 0x8000#16).dataAlterable = true ∧ sourceReady .word 1 (.imm 0xFFFF#32) rig = true ∧
    destReady .word (1 + eaWords .word (.imm 0xFFFF#32)) (.disp 1 0x8000#16) (eaUpdate .word (.imm 0xFFFF#32) rig) = true := by
  decide

theorem witness_AddressRegisterResults :
    sourceReady .word 1 (.postinc 0) rig = true ∧ sourceReady .long 1 (.postinc 7) rig = true ∧
    (Ea.pcIndex 0x0804#16).control = true ∧ eaReady .long 1 (.pcIndex 0x0804#16) rig = true := by decide

theorem witness_ExtendingMoves : sourceReady .byte 1 (.predec 7) rig = true ∧ sourceReady .word 1 (.areg 7) rig = true := by
  decide

theorem witness_ClearAndQuickMove :
    (Ea.absL 0xFFFFFFFF#32).dataAlterable = true ∧ destReady .byte 1 (.absL 0xFFFFFFFF#32) rig = true ∧
    (Ea.areg 7).alterable = true ∧ destReady .long 1 (.areg 7) rig = true := by decide

set_option maxRecDepth 4000 in
theorem witness_MovemTransfers :
    (Ea.disp 7 0xFFF0#16).block = true ∧ extReady 1 1 rig = true ∧ eaReady .long 2 (.disp 7 0xFFF0#16) rig = true ∧
    (∀ k, k < (maskRegs 0x8001#16).length →
      rig.refuses .write (eaAddress .long (.disp 7 0xFFF0#16) rig + BitVec.ofNat 32 (4 * k)) 4 = false) ∧
    (∀ k, k < (maskRegs 0x8001#16).length →
      rig.refuses .read (eaAddress .long (.disp 7 0xFFF0#16) rig + BitVec.ofNat 32 (4 * k)) 4 = false) := by decide

theorem witness_CcrMoves :
    rig.sr &&& srMask rig.cfg = rig.sr ∧ (Ea.imm 0xFF#32).dregOrImm .byte = true ∧
    sourceReady .byte 1 (.imm 0xFF#32) rig = true := by decide

theorem witness_RegisterResults_saturation :
    let s := rig.setFlags ⟨false, false, false, true, false⟩
    s.flags.v = true ∧ (s.getD 0).getLsbD 31 = false ∧ ((s.setD 0 0x80000000#32).getD 0).getLsbD 31 = true ∧
    rig.flags.v = false := by decide

theorem witness_FindFirstOne : rig.getD 0 = 0#32 ∧ (rig.setD 0 1#32).getD 0 ≠ 0#32 := by decide

theorem witness_SourceToRegister : sourceReady .long 1 (.postinc 0) rig = true ∧ sourceReady .long 1 (.imm 5#32) rig = true := by
  decide

theorem witness_ImmediateToRegister : extReady 1 2 rig = true := by decide

theorem witness_RegisterToDestination :
    modifyReady .long 1 (.index 0 0x1C02#16) rig = true ∧ (Ea.index 0 0x1C02#16).memoryAlterable = true ∧
    modifyReady .long 1 (.dreg 7) rig = true ∧ (Ea.dreg 7).dataAlterable = true := by decide

theorem witness_CompareAndTest :
    sourceReady .byte 1 (.pcDisp 0#16) rig = true ∧ sourceReady .word 1 (.areg 0) rig = true ∧
    sourceReady .long 1 (.areg 7) rig = true ∧ extReady 1 (eaWords .long (.imm 0#32)) rig = true := by decide

theorem witness_Multiply :
    sourceReady .word 1 (.imm 0x8000#32) rig = true ∧ extReady 1 1 rig = true ∧ sourceReady .long 2 (.disp 0 4#16) rig = true := by
  decide

/-- Quotients at the boundary: 0xFFFF and 0x10000 unsigned, -32768 and 32768 signed. -/
theorem witness_DivideWord :
    sourceReady .word 1 (.dreg 1) rig = true ∧ Size.word.u (sourceValue .word (.dreg 1) (rig.setD 1 1#32)) ≠ 0 ∧
    ((rig.setD 0 0xFFFF#32).getD 0).toNat = 0xFFFF * 1 + 0 ∧ ((rig.setD 0 0x10000#32).getD 0).toNat = 0x10000 * 1 + 0 ∧
    ((rig.setD 0 0xFFFF8000#32).getD 0).toInt = -32768 * 1 + 0 ∧ ((rig.setD 0 0x8000#32).getD 0).toInt = 32768 * 1 + 0 := by
  decide

theorem witness_DivideLong :
    let s := (rig.setD 0 0x80000000#32).setD 1 0xFFFFFFFF#32
    extReady 1 1 s = true ∧ sourceReady .long 2 (.dreg 1) s = true ∧ sourceValue .long (.dreg 1) s ≠ 0#32 ∧
    (s.getD 0 = 0x80000000#32 ∧ sourceValue .long (.dreg 1) s = 0xFFFFFFFF#32) ∧
    ¬((s.setD 0 0x80000001#32).getD 0 = 0x80000000#32 ∧ sourceValue .long (.dreg 1) s = 0xFFFFFFFF#32) := by decide

theorem witness_DivideByZero :
    sourceReady .word 1 (.dreg 1) rig = true ∧ Size.word.u (sourceValue .word (.dreg 1) (rig.setD 1 0xFFFF0000#32)) = 0 ∧
    extReady 1 1 rig = true ∧ sourceReady .long 2 (.ind 0) rig = true ∧ sourceValue .long (.ind 0) rig = 0#32 := by decide

theorem witness_BitOperations :
    (Ea.disp 0 1#16).short = true ∧ extReady 1 1 rig = true ∧ modifyReady .byte 2 (.disp 0 1#16) rig = true ∧
    sourceReady .byte 2 (.disp 0 1#16) rig = true ∧ (Ea.dreg 0).dataAlterable = true ∧
    modifyReady .long 1 (.dreg 0) rig = true ∧ (Ea.pcIndex 0x0800#16).bitTest = true ∧
    sourceReady .byte 1 (.pcIndex 0x0800#16) rig = true := by decide

theorem witness_TestAndSet :
    (Ea.predec 7).memoryAlterable = true ∧ modifyReady .byte 1 (.predec 7) rig = true ∧
    (Ea.postinc 0).memoryAlterable = true ∧ modifyReady .byte 1 (.postinc 0) rig = true := by decide

theorem witness_Branches :
    extReady 1 (dispWords (.long 0xFFFFFFFF#32)) rig = true ∧ condHolds .cc rig.flags = true ∧
    condHolds .eq rig.flags = false ∧ pushReady rig = true := by decide

theorem witness_JumpsAndReturns :
    (Ea.absL 0xFFFFFFFE#32).control = true ∧ eaReady .long 1 (.absL 0xFFFFFFFE#32) rig = true ∧ pushReady rig = true ∧
    rig.refuses .read rig.sp 4 = false := by decide

theorem witness_StackInstructions :
    (Ea.pcDisp 0xFFFF#16).control = true ∧ eaReady .long 1 (.pcDisp 0xFFFF#16) rig = true ∧ pushReady rig = true ∧
    (6 : Fin 8) ≠ 7 ∧ extReady 1 1 rig = true ∧ rig.refuses .read (rig.getA 6) 4 = false := by decide

theorem witness_NoOperations : extReady 1 1 rig = true ∧ extReady 1 2 rig = true ∧ rig.supervisor = true := by decide

theorem witness_StatusRegisterMoves :
    rig.supervisor = true ∧ rig.sr &&& srMask rig.cfg = rig.sr ∧ (Ea.imm 0xFFFF#32).dregOrImm .word = true ∧
    sourceReady .word 1 (.imm 0xFFFF#32) rig = true ∧ extReady 1 2 rig = true ∧ pushReady rig = true ∧
    rig.cfg.srImmSClear = .load ∧ (0x2000#16).getLsbD 13 = true := by decide

theorem witness_UserStackPointerMoves :
    (uspPresent rig.cfg = true ∧ rig.supervisor = true ∧ eusp rig.cacr = true) ∧
    uspPresent { Config.default with isa := .a } = false ∧ uspPresent { Config.default with hasUsp := false } = false := by decide

/-- The default core, which lacks the registers of V4 and of the device, and a V4 core with an MMU and all of them; a number
beside each range of the table; EUSP going from 1 to 0 and from 0 to 1. -/
theorem witness_ControlRegisterWrites :
    rig.supervisor = true ∧ extReady 1 1 rig = true ∧ rig.cfg.reserved = .refuse ∧
    rig.cfg.deviceRegs = ⟨false, false, false, false, false⟩ ∧ rig.cfg.core = .v2 ∧ rig.cfg.hasMmu = false ∧
    (let s := { rig with cacr := 0#32, cfg := { Config.default with
        core := .v4, hasMmu := true, deviceRegs := ⟨true, true, true, true, true⟩, reserved := .trap } }
     s.supervisor = true ∧ extReady 1 1 s = true ∧ s.cfg.reserved = .trap ∧ s.cfg.deviceRegs = ⟨true, true, true, true, true⟩ ∧
     eusp s.cacr = false ∧ eusp ((s.setD 0 0x10#32).getR 0) = true) ∧
    eusp rig.cacr = true ∧ eusp (rig.getR 0) = false := by decide

/-- A number beside each range of the table. -/
theorem witness_ControlRegisterWrites_absent :
    ∀ rc ∈ [0x001#12, 0x009#12, 0x800#12, 0xC02#12, 0xC0E#12],
      rc ∉ [0x002#12, 0x003#12, 0x004#12, 0x005#12, 0x006#12, 0x007#12, 0x008#12, 0x801#12, 0xC00#12, 0xC01#12, 0xC04#12,
        0xC05#12, 0xC0F#12] := by simp

theorem witness_StopAndHalt :
    rig.supervisor = true ∧ extReady 1 1 rig = true ∧ rig.cfg.srImmSClear = .load ∧ rig.trace = false ∧
    (0x2000#16).getLsbD 15 = false ∧ (0xA000#16).getLsbD 15 = true ∧ ({ rig with sr := 0xA000#16 } : State).trace = true ∧
    (let s := { rig with cfg := { Config.default with srImmSClear := .privilegeViolation } }
     s.supervisor = true ∧ s.cfg.srImmSClear = .privilegeViolation ∧ (0xDFFF#16).getLsbD 13 = false ∧
     extReady 1 1 s = true ∧ extReady 1 2 s = true) := by
  decide

/-- R75, R77: RTE has synchronized before its format error is raised; STLDSR is not one of the synchronizing instructions. -/
theorem test_rte_synchronizes_before_it_raises :
    (let s := { withLong rig 0x2000#32 0x80002000#32 with unsynced := [0x1002] }
     after .rte s (fun t => t.inhibit && !t.dirty 0x1002#32 && t.load 0x1FFC#32 .long == 0x1000#32) = true) ∧
    after (.stldsr 0x2000#16) { rig with unsynced := [0x1010] } (fun t => t.dirty 0x1010#32) = true := by decide

/-- Formats 4 and 7, and 3 and 8 beside them. -/
theorem witness_ReturnFromException :
    rig.supervisor = true ∧ rig.refuses .read rig.sp 4 = false ∧ rig.refuses .read (rig.sp + 4#32) 4 = false ∧
    (((withLong rig 0x2000#32 0x40802000#32).load rig.sp .long).extractLsb' 28 4).toNat = 4 ∧
    (((withLong rig 0x2000#32 0x70802000#32).load rig.sp .long).extractLsb' 28 4).toNat = 7 ∧
    (((withLong rig 0x2000#32 0x30802000#32).load rig.sp .long).extractLsb' 28 4).toNat = 3 ∧
    (((withLong rig 0x2000#32 0x80802000#32).load rig.sp .long).extractLsb' 28 4).toNat = 8 := by decide

theorem witness_PrivilegeViolations :
    isPrivileged .rte = true ∧ (inUser rig).supervisor = false ∧ uspPresent rig.cfg = true ∧ isPrivileged (.moveToUsp 0) = true ∧
    synchronizes .rte = true ∧ synchronizes (.moveToUsp 0) = false := by decide

theorem witness_SpecifiedRefusals :
    rig.supervisor = true ∧ extReady 1 1 rig = true ∧ uspPresent rig.cfg = true ∧ rig.cfg.hasEuspBit = true ∧
    eusp State.reset.cacr = false := by decide

/-- A misaligned user stack beside an aligned supervisor stack, entered from user mode. -/
theorem witness_ExceptionEntry :
    let s := { inUser rig with usp := 0x3003#32 }
    let e := { s with sr := entrySr (some 7#3) s.sr }
    e.refuses .write ((e.sp &&& 0xFFFFFFFC#32) - 8#32) 4 = false ∧
    e.refuses .write ((e.sp &&& 0xFFFFFFFC#32) - 8#32 + 4#32) 4 = false ∧
    e.refuses .read (s.vbr + 4#32 * (0xFF#8).setWidth 32) 4 = false := by decide

/-- An entry from supervisor mode on a misaligned stack, and an interrupt entry from user mode. -/
theorem witness_EntryThenReturn :
    ∀ c ∈ [(none, { rig with ssp := 0x2003#32 }), (some 7#3, { inUser rig with usp := 0x3001#32 })],
      let e := { c.2 with sr := entrySr c.1 c.2.sr }
      e.refuses .write (frameBase e.sp) 4 = false ∧ e.refuses .write (frameBase e.sp + 4#32) 4 = false ∧
      e.refuses .read (frameBase e.sp) 4 = false ∧ e.refuses .read (frameBase e.sp + 4#32) 4 = false ∧
      e.refuses .read (vectorAddress c.2.vbr 32#8) 4 = false := by decide

theorem witness_EntryThenReturn_inv :
    State.Inv { rig with ssp := 0x2003#32 } ∧ State.Inv { inUser rig with usp := 0x3001#32 } :=
  ⟨⟨by decide, by decide, by decide, by decide, by decide⟩, ⟨by decide, by decide, by decide, by decide, by decide⟩⟩

/-- The frame's first longword refused, its second refused, and the vector refused with the frame written. -/
theorem witness_FaultOnFault :
    { walled with ssp := 0x5008#32 }.refuses .write (frameBase 0x5008#32) 4 = true ∧
    ({ walled with ssp := 0x5004#32 }.refuses .write (frameBase 0x5004#32) 4 = false ∧
      { walled with ssp := 0x5004#32 }.refuses .write (frameBase 0x5004#32 + 4#32) 4 = true) ∧
    (noVectors.refuses .write (frameBase noVectors.sp) 4 = false ∧
      noVectors.refuses .write (frameBase noVectors.sp + 4#32) 4 = false ∧
      noVectors.refuses .read (vectorAddress noVectors.vbr 0#8) 4 = true) := by decide

theorem witness_AccessErrors :
    isMemory (.absL 0x5000#32) = true ∧ eaReady .long 1 (.absL 0x5000#32) walled = true ∧
    eaAllows .read .long (.absL 0x4FFD#32) walled = false ∧ (Ea.absL 0x5000#32).memoryAlterable = true ∧
    walled.refusing .write (eaAddress .long (.absL 0x5000#32) walled) 4 =
      some ⟨0x5000, 4, true, true, true, true, true, false⟩ ∧
    walled.cfg.writeFaultMode = .precise ∧
    late.refusing .write (eaAddress .long (.absL 0x5003#32) late) 4 = some ⟨0x5000, 4, true, true, true, true, true, false⟩ ∧
    late.cfg.writeFaultMode = .imprecise := by decide

/-- Each instruction that pushes, with the bytes below its stack pointer refused. -/
theorem witness_AccessErrors_push :
    ∀ i ∈ [Instr.pea (.ind 0), .jsr (.ind 7), .bsr (.byte 2#8), .link 6 0#16, .stldsr 0x2000#16],
      (let s := { walled with ssp := 0x5004#32 }
       pushes i s = true ∧ s.refusing .write (s.sp - 4#32) 4 = some ⟨0x5000, 4, true, true, true, true, true, false⟩ ∧
       s.cfg.writeFaultMode = .precise) ∧
      (let s := { late with ssp := 0x5001#32 }
       pushes i s = true ∧ s.refusing .write (s.sp - 4#32) 4 = some ⟨0x5000, 4, true, true, true, true, true, false⟩ ∧
       s.cfg.writeFaultMode = .imprecise) := by decide

/-- A transfer refused after one that was made (k = 1), and the very first refused (k = 0). -/
theorem witness_AccessErrors_movem :
    let s := walled.setA 0 0x4FFC#32
    (Ea.ind 0).block = true ∧ extReady 1 1 s = true ∧ eaReady .long 2 (.ind 0) s = true ∧
    1 < (maskRegs 0x8001#16).length ∧
    s.refuses .write (eaAddress .long (.ind 0) s) 4 = false ∧ s.refuses .read (eaAddress .long (.ind 0) s) 4 = false ∧
    (s.refusing .write (eaAddress .long (.ind 0) s + 4#32) 4).isSome = true ∧
    s.refuses .read (eaAddress .long (.ind 0) s + 4#32) 4 = true ∧
    (s.refusing .write (eaAddress .long (.disp 0 4#16) s) 4).isSome = true ∧ s.cfg.writeFaultMode = .precise := by decide

/-- A read-modify-write whose read is refused, and one whose write alone is. -/
theorem witness_AccessErrors_modify :
    modifyForm (.addq 0 (.absL 0x5000#32)) = some (.long, 1, .absL 0x5000#32) ∧
    modifyForm (.bsetImm 0#8 (.disp 0 0#16)) = some (.byte, 2, .disp 0 0#16) ∧
    extReady 1 0 walled = true ∧ eaReady .long 1 (.absL 0x5000#32) walled = true ∧
    eaAllows .read .long (.absL 0x5000#32) walled = false ∧
    (∀ m ∈ [WriteFaultMode.precise, .imprecise],
      let s := { rig with cfg := { Config.default with
        writeFaultMode := m, platform := [⟨0x4000, 1, false, false, true, true, true, true⟩] } }
      extReady 1 1 s = true ∧ eaReady .byte 2 (.disp 0 0#16) s = true ∧ eaAllows .read .byte (.disp 0 0#16) s = true ∧
      (s.refusing .write (eaAddress .byte (.disp 0 0#16) s) 1).isSome = true ∧ s.cfg.writeFaultMode = m) := by decide

/-- A pending write fault reported at once, at the environment's choice, before NOP, and left pending before TPF. -/
theorem witness_AccessErrors_report :
    (∀ d ∈ [[], [true], [false]], ({ late with writeFaults := [8#4], deliver := d } : State).writeFaults = 8#4 :: []) ∧
    late.run = .running ∧ recognized (withCode late [0x4E71#16]) = some .nop ∧ synchronizes .nop = true ∧
    [false].head? = some false ∧ (decode ((withCode late [0x51FC#16]).words 0x1000#32)).toOption.map Prod.fst = some .tpf ∧
    assigned late.cfg .tpf = true ∧ synchronizes .tpf = false := by decide

theorem witness_AccessErrors_report_boundary :
    (withCode late [0x51FC#16]).noInterrupt ∧ (withCode late [0x51FC#16]).opcodeReady := by
  refine ⟨fun r h => ?_, ?_⟩
  · cases h
  · unfold State.opcodeReady State.opwordReady
    decide

/-- Each bad extension word; indexed first operands; an indexed destination after an updating source. -/
theorem witness_FetchAndAddressErrors :
    ((0x0000#16).getLsbD 11 = false ∧ (0x0900#16).getLsbD 8 = true ∧ (0x0E00#16).extractLsb' 9 2 = 3#2) ∧
    rig.cfg.hasFpu = false ∧ extReady 1 (0 + 1) rig = true ∧ sourceReady .word 1 (.postinc 0) rig = true ∧
    extReady (1 + eaWords .word (.postinc 0)) 1 rig = true := by decide

theorem witness_FetchAndAddressErrors_index :
    leadingEa (.addEaDn (.index 0 0x0900#16) 0) = some (0, .long, .index 0 0x0900#16) ∧
    Instr.wf (.addEaDn (.index 0 0x0900#16) 0) = true ∧
    leadingEa (.btstReg 0 (.pcIndex 0#16)) = some (0, .byte, .pcIndex 0#16) ∧ Instr.wf (.btstReg 0 (.pcIndex 0#16)) = true ∧
    leadingEa (.addq 1 (.index 0 0x0E00#16)) = some (0, .long, .index 0 0x0E00#16) ∧
    Instr.wf (.addq 1 (.index 0 0x0E00#16)) = true := by decide

/-- R128: no register changes, the source's postincrement included; the frame holds the opword's address. -/
theorem test_bad_index_destination :
    after (.moveW (.postinc 0) (.index 1 0x0000#16)) rig
      (fun t => t.getA 0 == 0x4000#32 && t.sp == 0x1FF8#32 && t.load 0x1FFC#32 .long == 0x1000#32) = true := by decide

theorem witness_FetchAndAddressErrors_opword (pc : Long) (v : Option Byte) (b : Bool) :
    let s := { walled with pc := pc, firstFetch := v, inhibit := b }
    s.run = .running ∧ s.writeFaults = [] ∧ s.request = none ∧ s.firstFetch = v := ⟨rfl, rfl, rfl, rfl⟩

/-- An odd pc, a refused opword, and one stored to. -/
theorem witness_FetchAndAddressErrors_pc :
    (0x1001#32).getLsbD 0 = true ∧ (0x5000#32).getLsbD 0 = false ∧ walled.refuses .fetch 0x5000#32 2 = true ∧
    ({ rig with unsynced := [0x1001] } : State).dirty 0x1000#32 = true ∧ rig.refuses .fetch 0x1000#32 2 = false := by decide

theorem witness_FetchAndAddressErrors_no_interrupt : ({ walled with pc := 0x1001#32, inhibit := true } : State).noInterrupt := by
  intro r h
  cases h

/-- A second word refused, and one stored to. -/
theorem witness_FetchAndAddressErrors_second_word :
    let s := withCode { walled with pc := 0x4FFE#32 } [0x4C01#16]
    let u := withCode { rig with unsynced := [0x1002] } [0xFBE8#16]
    s.opwordReady ∧ needsSecondWord (s.word s.pc).toNat = true ∧ s.refuses .fetch (s.pc + 2#32) 2 = true ∧
    u.opwordReady ∧ needsSecondWord (u.word u.pc).toNat = true ∧ u.refuses .fetch (u.pc + 2#32) 2 = false ∧
    u.dirty (u.pc + 2#32) = true := by
  unfold State.opwordReady
  decide

/-- The second of two leading words refused (k = 1), the first stored to (k = 0), a privileged instruction; the destination's
word of a MOVE refused. -/
theorem witness_FetchAndAddressErrors_extension :
    (let s := { walled with pc := 0x4FFC#32 }
     Instr.wf (.addiL 5#32 0) = true ∧ 1 < leadingWords (.addiL 5#32 0) ∧ extReady 1 1 s = true ∧
     s.refuses .fetch (s.pc + 2#32 * BitVec.ofNat 32 (1 + 1)) 2 = true ∧
     (Ea.disp 1 0#16).dataAlterable = true ∧ sourceReady .word 1 (.imm 5#32) s = true ∧ 0 < eaWords .word (.disp 1 0#16) ∧
     s.refuses .fetch (s.pc + 2#32 * BitVec.ofNat 32 (1 + eaWords .word (.imm 5#32) + 0)) 2 = true) ∧
    (let s := { rig with unsynced := [0x1003] }
     Instr.wf (.stop 0x2000#16) = true ∧ s.supervisor = true ∧ 0 < leadingWords (.stop 0x2000#16) ∧ extReady 1 0 s = true ∧
     s.refuses .fetch (s.pc + 2#32 * BitVec.ofNat 32 (1 + 0)) 2 = false ∧
     s.dirty (s.pc + 2#32 * BitVec.ofNat 32 (1 + 0)) = true) := by decide

/-- What the statement asks of every opcode, and its line. -/
def unassignedReady (ws : List Word) (line : BitVec 4) : Bool :=
  let s := withCode rig ws
  decide (s.run = .running) && decide (s.writeFaults = []) && decide (s.request = none) && !s.pc.getLsbD 0 &&
    !s.refuses .fetch s.pc 2 && !s.dirty s.pc && !s.refuses .fetch (s.pc + 2#32) 2 && !s.dirty (s.pc + 2#32) &&
    (recognized s).isNone && decide ((s.word s.pc).extractLsb' 12 4 = line)

theorem witness_UnassignedOpwords :
    unassignedReady [0xA000#16] 0xA#4 = true ∧ unassignedReady [0xF200#16] 0xF#4 = true ∧
    unassignedReady [0x4AC0#16] 0x4#4 = true := by decide

/-- Opcodes with a second word that does not belong to them. -/
theorem witness_UnassignedOpwords_second_word :
    unassignedReady [0xFBD0#16, 0#16] 0xF#4 = true ∧ unassignedReady [0x4C00#16, 0xFFFF#16] 0x4#4 = true := by decide

/-- Units present and absent, both behaviours; an FPU opword and one beside the FPU's. -/
theorem witness_UnassignedOpwords_configurations :
    rig.cfg.hasMac = false ∧ rig.cfg.hasEmac = false ∧ rig.cfg.hasEmacB = false ∧ rig.cfg.hasFpu = false ∧
    (let s := withCode { rig with cfg := { Config.default with hasEmacB := true, hasFpu := true, reserved := .trap } } [0xF3FF#16]
     recognized s = none ∧ (s.word s.pc).extractLsb' 9 7 = 0x79#7) ∧
    (0xF400#16).extractLsb' 9 7 ≠ 0x79#7 ∧ (0xF1FF#16).extractLsb' 9 7 ≠ 0x79#7 ∧ rig.cfg.reserved = .refuse := by decide

/-- A request of level 3 over mask 2 and under mask 3, and a new edge of level 7 under mask 7. -/
theorem witness_Interrupts :
    let s := { rig with sr := 0x2200#16, irq := [some ⟨3#3, 64#8⟩] }
    s.request = some ⟨3#3, 64#8⟩ ∧ acceptable s ⟨3#3, 64#8⟩ = true ∧ s.run = .running ∧ s.writeFaults = [] ∧
    s.inhibit = false ∧ ({ s with run := .stopped } : State).run = .stopped ∧
    acceptable { s with sr := 0x2300#16 } ⟨3#3, 64#8⟩ = false ∧ rig.mask = 7#3 ∧ rig.irq7 = false ∧
    ({ rig with irq7 := true } : State).irq7 = true ∧
    ({ s with run := .halted .haltInstruction } : State).run = .halted .haltInstruction := by decide

/-- What the statement asks of a state with these words at its pc: they decode to `i`, which is quiet or not. -/
def traceReady (ws : List Word) (i : Instr) (quiet : Bool) (sr : Word) : Bool :=
  let s := withCode { rig with sr := sr } ws
  decide (s.run = .running) && decide (s.writeFaults = []) && decide (s.request = none) && !s.pc.getLsbD 0 &&
    !s.refuses .fetch s.pc 2 && !s.dirty s.pc && !s.refuses .fetch (s.pc + 2#32) 2 && !s.dirty (s.pc + 2#32) &&
    decide (recognized s = some i) &&
    after i { s.pastBoundary with inhibit := false, firstFetch := none }
      (fun t => (!t.inhibit && decide (t.run = .running)) == quiet)

/-- MOVEQ, and MULS.L with its second word, run quietly. -/
theorem witness_Trace_set :
    traceReady [0x7605#16] (.moveq 5#8 3) true 0xA000#16 = true ∧
    traceReady [0x4C01#16, 0x2800#16] (.mulsL (.dreg 1) 2) true 0xA000#16 = true ∧
    ({ rig with sr := 0xA000#16 } : State).trace = true := by decide

theorem witness_Trace_clear :
    traceReady [0x7605#16] (.moveq 5#8 3) true 0x2000#16 = true ∧ ({ rig with sr := 0x2000#16 } : State).trace = false := by
  decide

/-- TRAP is not quiet. -/
theorem witness_Trace_not_quiet : traceReady [0x4E40#16] (.trap 0) false 0xA000#16 = true := by decide

/-- A step of user mode that completes, and one that takes an exception. -/
theorem witness_UserModeConfined :
    (inUser rig).run = .running ∧ (inUser rig).supervisor = false ∧
    stepsTo (withCode (inUser rig) [0x7605#16]) (fun t => !t.inhibit && !t.supervisor) = true ∧
    stepsTo (withCode (inUser rig) [0x4E73#16]) (fun t => t.inhibit && t.supervisor) = true := by decide

/-- One instruction of each frame completes quietly. -/
theorem witness_frames :
    (rig.inhibit = false ∧ rig.run = .running) ∧
    (∀ i ∈ [Instr.moveq 5#8 0, .tst .long (.postinc 0), .lea (.ind 0) 1, .bra (.byte 2#8), .pea (.ind 0), .link 6 0#16,
        .moveL (.dreg 0) (.predec 0), .moveToCcr (.dreg 0)],
      i.wf = true ∧ after i rig (fun t => !t.inhibit && decide (t.run = .running)) = true) ∧
    dataForm (.moveq 5#8 0) = some (0, .dreg 0) ∧ flagForm (.tst .long (.postinc 0)) = some (.postinc 0) ∧
    addressForm (.lea (.ind 0) 1) = some (1, .ind 0) ∧ flowForm (.bra (.byte 2#8)) = true ∧
    pushForm (.pea (.ind 0)) = some [7] ∧ pushForm (.link 6 0#16) = some [6, 7] ∧
    storeForm (.moveL (.dreg 0) (.predec 0)) = some (.long, .predec 0, .dreg 0) := by decide

end Sys2Proof.Tests
end

