-- ==== Sys2Proof/Proofs/Encoding.lean ====
section
/-! PROOFS. The number of extension words (spec 30_encoding.md R94): the lengths of the encoder's lists, and that `eaWords`, by
which the machine moves its pc, counts them. -/

namespace Sys2Proof.Machine

@[simp] theorem longWords_length (v : Long) : (longWords v).length = 2 := rfl

/-- A byte immediate takes a whole word, as a word immediate does (R97). -/
theorem immWords_length_eq (sz : Size) (v : Long) : (immWords sz v).length = if sz = .long then 2 else 1 := by
  cases sz with
  | byte | word => rfl
  | long => exact longWords_length v

theorem eaWords_imm (sz : Size) (v : Long) : eaWords sz (.imm v) = if sz = .long then 2 else 1 := by
  cases sz <;> rfl

/-- The machine counts the extension words the encoder writes; only an immediate's number depends on the size. -/
theorem eaWords_eq_ext_length (sz : Size) (ea : Ea) : eaWords sz ea = (ea.ext sz).length := by
  cases ea with
  | dreg | areg | ind | postinc | predec => rfl
  | disp | index | absW | pcDisp | pcIndex => rfl
  | absL l => exact (longWords_length l).symm
  | imm v => exact (eaWords_imm sz v).trans (immWords_length_eq sz v).symm

/-- Settles O3, by the encoder's list of each mode: none, one word, the two words of an address, an immediate by its size. -/
theorem extensionWordCounts : Obligations.ExtensionWordCounts := by
  intro sz n w l
  exact ⟨rfl, rfl, rfl, rfl, rfl,
    rfl, rfl, rfl, rfl, rfl,
    longWords_length l, immWords_length_eq sz l, eaWords_eq_ext_length sz⟩

end Sys2Proof.Machine
end

section
/-! PROOFS. BITREV, BYTEREV and FF1, the bit manipulation instructions on a data register alone (spec 46_bit_manipulation.md R305 to
R307). -/

namespace Sys2Proof.Machine

/-! Flags written back unchanged. -/

theorem Flags.toBits_ofWord (w : Word) : (Flags.ofWord w).toBits = w.extractLsb' 0 5 := by
  refine BitVec.eq_of_getLsbD_eq fun i h => ?_
  simp only [Flags.toBits, Flags.ofWord, BitVec.getLsbD_append, BitVec.getLsbD_ofBool]
  interval_cases i <;> simp

/-- A status word that takes its own flags is unchanged, in its upper eleven bits and its lower five (R27). -/
@[simp] theorem Flags.into_ofWord (w : Word) : (Flags.ofWord w).into w = w := by
  rw [Flags.into, Flags.toBits_ofWord, BitVec.extractLsb'_append_extractLsb'_eq_extractLsb' (by decide)]
  exact BitVec.extractLsb'_eq_self

@[simp] theorem State.setFlags_self (s : State) : s.setFlags s.flags = s := by
  simp [State.setFlags, State.flags]

/-! An operation on one data register, as a whole instruction. -/

/-- An instruction of one word that works on a data register completes, whatever the state: nothing is raised. -/
theorem finish_modifyD (dx : Fin 8) (f : Long → Flags → Long × Flags) (s : State) :
    finish s ((modifyD dx f s).bind fun _ s => advance 1 s) =
      .next (((s.setD dx (f (s.getD dx) s.flags).1).setFlags (f (s.getD dx) s.flags).2).advanced 1) := rfl

/-- The same where the operation hands back the flags it was given. -/
theorem finish_modifyD_keeping_flags (dx : Fin 8) (g : Long → Long) (s : State) :
    finish s ((modifyD dx (fun d f => (g d, f)) s).bind fun _ s => advance 1 s) =
      .next ((s.setD dx (g (s.getD dx))).advanced 1) := by
  have kept : (s.setD dx (g (s.getD dx))).setFlags s.flags = s.setD dx (g (s.getD dx)) :=
    State.setFlags_self (s.setD dx (g (s.getD dx)))
  rw [finish_modifyD, kept]

theorem exec_bitrev (dx : Fin 8) (s : State) :
    exec (.bitrev dx) s = .next ((s.setD dx (s.getD dx).reverse).advanced 1) :=
  finish_modifyD_keeping_flags dx BitVec.reverse s

theorem exec_byterev (dx : Fin 8) (s : State) :
    exec (.byterev dx) s = .next ((s.setD dx (byteReverse (s.getD dx))).advanced 1) :=
  finish_modifyD_keeping_flags dx byteReverse s

theorem exec_ff1 (dx : Fin 8) (s : State) :
    exec (.ff1 dx) s =
      .next (((s.setD dx (BitVec.ofNat 32 (firstOne (s.getD dx) 32))).setFlags
        ⟨s.flags.x, (s.getD dx).getLsbD 31, decide (s.getD dx = 0#32), false, false⟩).advanced 1) :=
  finish_modifyD dx (fun d f => (BitVec.ofNat 32 (firstOne d 32), Flags.moveStyle .long d f)) s

/-! The configurations that have the three instructions. -/

theorem isaPlusOrC_iff (cfg : Config) : isaPlusOrC cfg = true ↔ cfg.isa = .aPlus ∨ cfg.isa = .c := by
  simp [isaPlusOrC]

/-! The opwords: each of the eight registers in bits 2 to 0. -/

theorem decode_bitrev (dx : Fin 8) : decode [BitVec.ofNat 16 (0x00C0 + dx.val)] = .ok (.bitrev dx, []) := by
  fin_cases dx <;> rfl

theorem decode_byterev (dx : Fin 8) : decode [BitVec.ofNat 16 (0x02C0 + dx.val)] = .ok (.byterev dx, []) := by
  fin_cases dx <;> rfl

theorem decode_ff1 (dx : Fin 8) : decode [BitVec.ofNat 16 (0x04C0 + dx.val)] = .ok (.ff1 dx, []) := by
  fin_cases dx <;> rfl

/-! BITREV: bit by bit. -/

theorem getLsbD_reverse_long (d : Long) (i : Nat) (h : i < 32) : d.reverse.getLsbD i = d.getLsbD (31 - i) := by
  rw [BitVec.getLsbD_reverse, BitVec.getMsbD_eq_getLsbD]
  simp [h]

theorem reverse_eq_of_bits {d r : Long} (h : ∀ i, i < 32 → d.getLsbD (31 - i) = r.getLsbD i) : d.reverse = r :=
  BitVec.eq_of_getLsbD_eq fun i hi => (getLsbD_reverse_long d i hi).trans (h i hi)

/-! BYTEREV: byte by byte. -/

/-- The bytes of four bytes put together, the first one highest. -/
theorem extractLsb'_of_bytes (a b c e : Byte) :
    (a ++ b ++ c ++ e).extractLsb' 24 8 = a ∧ (a ++ b ++ c ++ e).extractLsb' 16 8 = b ∧
    (a ++ b ++ c ++ e).extractLsb' 8 8 = c ∧ (a ++ b ++ c ++ e).extractLsb' 0 8 = e := by
  have skip (w k : Nat) (hi : BitVec w) (lo : Byte) : (hi ++ lo).extractLsb' (k + 8) 8 = hi.extractLsb' k 8 :=
    BitVec.extractLsb'_append_eq_of_le (Nat.le_add_left 8 k)
  refine ⟨?_, ?_, ?_, BitVec.extractLsb'_append_eq_right⟩
  · exact (skip _ 16 _ e).trans ((skip _ 8 _ c).trans BitVec.extractLsb'_append_eq_left)
  · exact (skip _ 8 _ e).trans ((skip _ 0 _ c).trans BitVec.extractLsb'_append_eq_right)
  · exact (skip _ 0 _ e).trans BitVec.extractLsb'_append_eq_right

theorem byteReverse_bytes (d : Long) :
    (byteReverse d).extractLsb' 24 8 = d.extractLsb' 0 8 ∧ (byteReverse d).extractLsb' 16 8 = d.extractLsb' 8 8 ∧
    (byteReverse d).extractLsb' 8 8 = d.extractLsb' 16 8 ∧ (byteReverse d).extractLsb' 0 8 = d.extractLsb' 24 8 :=
  extractLsb'_of_bytes _ _ _ _

/-! FF1: the scan from the top bit down. -/

theorem firstOne_of_set {d : Long} {n : Nat} (h : d.getLsbD n = true) : firstOne d (n + 1) = 0 := by
  simp [firstOne, h]

theorem firstOne_of_clear {d : Long} {n : Nat} (h : d.getLsbD n = false) : firstOne d (n + 1) = 1 + firstOne d n := by
  simp [firstOne, h]

/-- In the zero longword the scan passes every bit. -/
theorem firstOne_zero (n : Nat) : firstOne 0#32 n = n := by
  induction n with
  | zero => rfl
  | succ n ih => rw [firstOne_of_clear BitVec.getLsbD_zero, ih, Nat.add_comm]

/-- Every bit the scan has passed is clear. -/
theorem getLsbD_of_firstOne_passed (d : Long) (n j : Nat) (hj : j < n) (h : n ≤ firstOne d n + j) : d.getLsbD j = false := by
  induction n with
  | zero => omega
  | succ n ih =>
    cases top : d.getLsbD n with
    | true => rw [firstOne_of_set top] at h; omega
    | false =>
      rw [firstOne_of_clear top] at h
      obtain rfl | lower := Nat.eq_or_lt_of_le (Nat.lt_succ_iff.mp hj)
      · exact top
      · exact ih lower (by omega)

/-- The bit the scan stops at is set. -/
theorem getLsbD_of_firstOne_lt (d : Long) (n : Nat) (h : firstOne d n < n) : d.getLsbD (n - 1 - firstOne d n) = true := by
  induction n with
  | zero => omega
  | succ n ih =>
    cases top : d.getLsbD n with
    | true => simpa [firstOne_of_set top] using top
    | false =>
      rw [firstOne_of_clear top] at h ⊢
      have same : n + 1 - 1 - (1 + firstOne d n) = n - 1 - firstOne d n := by omega
      rw [same]
      exact ih (by omega)

/-- The scan of a nonzero longword stops before it has passed all 32 bits. -/
theorem firstOne_lt_of_ne_zero (d : Long) (h : d ≠ 0#32) : firstOne d 32 < 32 := by
  by_contra past
  refine h (BitVec.eq_of_getLsbD_eq fun j hj => ?_)
  rw [BitVec.getLsbD_zero]
  exact getLsbD_of_firstOne_passed d 32 j hj (by omega)

/-! The statements: in a namespace of their own, as the model has a function `byteReverse`. -/

namespace BitManipulation

/-- Settles O21: the exact next state, whose new register is the reversed one bit by bit. -/
theorem bitReverse : Obligations.BitReverse :=
  ⟨fun dx s => ⟨(s.getD dx).reverse, exec_bitrev dx s, getLsbD_reverse_long (s.getD dx)⟩,
    decode_bitrev,
    fun cfg _ => isaPlusOrC_iff cfg,
    reverse_eq_of_bits (by decide), reverse_eq_of_bits (by decide)⟩

/-- Settles O22: the exact next state, whose new register has the four bytes in the opposite order. -/
theorem byteReverse : Obligations.ByteReverse :=
  ⟨fun dx s => ⟨Machine.byteReverse (s.getD dx), exec_byterev dx s, byteReverse_bytes (s.getD dx)⟩,
    decode_byterev,
    fun cfg _ => isaPlusOrC_iff cfg,
    by decide⟩

/-- Settles O23: the exact next state; the scan passes all 32 bits of zero, and otherwise stops at the first set bit. -/
theorem findFirstOne : Obligations.FindFirstOne := by
  refine ⟨fun dx s => ⟨firstOne (s.getD dx) 32, exec_ff1 dx s, fun zero => ?_, fun nonzero => ?_⟩,
    decode_ff1,
    fun cfg _ => isaPlusOrC_iff cfg⟩
  · rw [zero, firstOne_zero]
  · have stops := firstOne_lt_of_ne_zero _ nonzero
    exact ⟨stops, getLsbD_of_firstOne_lt _ 32 stops,
      fun j above hj => getLsbD_of_firstOne_passed _ 32 j hj (by omega)⟩

end BitManipulation

end Sys2Proof.Machine
end

section
/-! PROOFS. The decoder reads back what the encoder writes (spec 30_encoding.md R90 to R112). The opword is found in its line of
the opcode map by arithmetic: each mask of the map keeps one or two fields of the opword. -/

namespace Sys2Proof

-- One theorem after another: elaborating them side by side takes a thread each, and no less time.
set_option Elab.async false

/-! Masks. -/

/-- A run of `k` mask bits from bit `j` up keeps that field of a number. -/
theorem land_field (w j k : Nat) : w &&& 2 ^ j * (2 ^ k - 1) = 2 ^ j * (w / 2 ^ j % 2 ^ k) := by
  refine Nat.eq_of_testBit_eq fun i => ?_
  simp only [Nat.testBit_and, Nat.mul_comm (2 ^ j), Nat.testBit_mul_two_pow, Nat.testBit_two_pow_sub_one,
    Nat.testBit_mod_two_pow, Nat.testBit_div_two_pow]
  by_cases h : j ≤ i
  · simp [h, Bool.and_comm]
  · simp [h]

/-- A mask of two runs keeps two fields. -/
theorem land_two_fields (w j k l m : Nat) (h : l + m ≤ j) :
    w &&& (2 ^ j * (2 ^ k - 1) ||| 2 ^ l * (2 ^ m - 1)) =
      2 ^ j * (w / 2 ^ j % 2 ^ k) + 2 ^ l * (w / 2 ^ l % 2 ^ m) := by
  have low : 2 ^ l * (w / 2 ^ l % 2 ^ m) < 2 ^ j :=
    calc 2 ^ l * (w / 2 ^ l % 2 ^ m) < 2 ^ l * 2 ^ m :=
          Nat.mul_lt_mul_of_pos_left (Nat.mod_lt _ (Nat.two_pow_pos m)) (Nat.two_pow_pos l)
      _ = 2 ^ (l + m) := (Nat.pow_add 2 l m).symm
      _ ≤ 2 ^ j := Nat.pow_le_pow_right (by decide) h
  rw [Nat.and_or_distrib_left, land_field, land_field, Nat.two_pow_add_eq_or_of_lt low]

/-! The masks of the opcode map. -/

@[simp] theorem land_FFFF (w : Nat) : w &&& 0xFFFF = w % 65536 := by simpa using land_field w 0 16
@[simp] theorem land_FFF8 (w : Nat) : w &&& 0xFFF8 = 8 * (w / 8 % 8192) := land_field w 3 13
@[simp] theorem land_FFF0 (w : Nat) : w &&& 0xFFF0 = 16 * (w / 16 % 4096) := land_field w 4 12
@[simp] theorem land_FFC0 (w : Nat) : w &&& 0xFFC0 = 64 * (w / 64 % 1024) := land_field w 6 10
@[simp] theorem land_FF00 (w : Nat) : w &&& 0xFF00 = 256 * (w / 256 % 256) := land_field w 8 8
@[simp] theorem land_F000 (w : Nat) : w &&& 0xF000 = 4096 * (w / 4096 % 16) := land_field w 12 4
@[simp] theorem land_FF38 (w : Nat) : w &&& 0xFF38 = 256 * (w / 256 % 256) + 8 * (w / 8 % 8) :=
  land_two_fields w 8 8 3 3 (by decide)
@[simp] theorem land_F1C0 (w : Nat) : w &&& 0xF1C0 = 4096 * (w / 4096 % 16) + 64 * (w / 64 % 8) :=
  land_two_fields w 12 4 6 3 (by decide)
@[simp] theorem land_F1F8 (w : Nat) : w &&& 0xF1F8 = 4096 * (w / 4096 % 16) + 8 * (w / 8 % 64) :=
  land_two_fields w 12 4 3 6 (by decide)
@[simp] theorem land_F0F8 (w : Nat) : w &&& 0xF0F8 = 4096 * (w / 4096 % 16) + 8 * (w / 8 % 32) :=
  land_two_fields w 12 4 3 5 (by decide)
@[simp] theorem land_F100 (w : Nat) : w &&& 0xF100 = 4096 * (w / 4096 % 16) + 256 * (w / 256 % 2) :=
  land_two_fields w 12 4 8 1 (by decide)
@[simp] theorem land_F1D8 (w : Nat) :
    w &&& 0xF1D8 = 4096 * (w / 4096 % 16) + 64 * (w / 64 % 8) + 8 * (w / 8 % 4) := by
  have h : w &&& 0xF1D8 = (w &&& 0xF1C0) ||| (w &&& 0x18) := Nat.and_or_distrib_left w 0xF1C0 0x18
  have low : 8 * (w / 8 % 4) < 2 ^ 6 := by omega
  have high : 4096 * (w / 4096 % 16) + 64 * (w / 64 % 8) = 2 ^ 6 * (64 * (w / 4096 % 16) + w / 64 % 8) := by omega
  rw [h, land_F1C0, show w &&& 0x18 = 8 * (w / 8 % 4) from land_field w 3 2, high, Nat.two_pow_add_eq_or_of_lt low]

/-! Finding the row. -/

@[simp] theorem Row.fits_mk (mask pattern w : Nat) (read : Nat → Parser Instr) :
    (Row.mk mask pattern read).fits w = (w &&& mask == pattern) := rfl

/-- Stated on the mask and the pattern, so that simp need not go through the rows' readers. -/
theorem none_fit_cons (row : Row) (rows : List Row) (k w : Nat) :
    (∀ x ∈ (row :: rows).take (k + 1), x.fits w = false) ↔
      ¬w &&& row.mask = row.pattern ∧ ∀ x ∈ rows.take k, x.fits w = false := by
  simp [Row.fits]

/-- The decoder reads by the row number `k` of the opword's line where the opword fits it and no row before it (R112). -/
theorem decode_of_row {n k w : Nat} {row : Row} {ws rest : List Word} {i : Instr} (hwf : i.wf = true)
    (hrow : (opcodeLine n)[k]? = some row) (hw : w < 65536) (hn : w / 4096 = n) (hfit : row.fits w = true)
    (hbefore : ∀ x ∈ (opcodeLine n).take k, x.fits w = false) (hread : row.read w ws = .ok (i, rest)) :
    decode (op w :: ws) = .ok (i, rest) := by
  have hop : (op w).toNat = w := by simpa [op] using hw
  have hsplit : opcodeLine n = (opcodeLine n).take k ++ row :: (opcodeLine n).drop (k + 1) := by
    obtain ⟨hk, rfl⟩ := List.getElem?_eq_some_iff.mp hrow
    simp
  have hfind : (opcodeLine n).find? (fun x => x.fits w) = some row :=
    List.find?_eq_some_iff_append.mpr ⟨hfit, _, _, hsplit, by simpa using hbefore⟩
  simp only [decode, hop, hn, hfind, hread, legal, hwf, if_true]

/-! Reading back what the encoder writes. -/

@[simp] theorem regOf_val (r : Fin 8) : regOf r.val = r := by simp [regOf]

@[simp] theorem withLong_longWords {α : Type} (k : Long → Parser α) (v : Long) (rest : List Word) :
    withLong k (longWords v ++ rest) = k v rest := by
  have : v.extractLsb' 16 16 ++ v.extractLsb' 0 16 = v :=
    (BitVec.extractLsb'_append_extractLsb'_eq_extractLsb' (by decide)).trans BitVec.extractLsb'_eq_self
  simp [withLong, withWord, longWords, this]

/-- An immediate that fits its size is read back from its words (R97). -/
theorem withImm_immWords {α : Type} (sz : Size) (k : Long → Parser α) (v : Long) (rest : List Word)
    (h : sz.fits v = true) : withImm sz k (immWords sz v ++ rest) = k v rest := by
  cases sz with
  | byte =>
    have hv : v.toNat < 256 := by simpa [Size.fits] using h
    have : (v.setWidth 8).setWidth 32 = v := by
      refine BitVec.eq_of_toNat_eq ?_
      simp only [BitVec.toNat_setWidth]
      omega
    simp [withImm, withWord, immWords, this]
  | word =>
    have hv : v.toNat < 65536 := by simpa [Size.fits] using h
    have : (v.setWidth 16).setWidth 32 = v := by
      refine BitVec.eq_of_toNat_eq ?_
      simp only [BitVec.toNat_setWidth]
      omega
    simp [withImm, withWord, immWords, this]
  | long => exact withLong_longWords k v rest

/-- An immediate operand fits the size (R97). -/
def Ea.immFits (sz : Size) (ea : Ea) : Prop := ∀ v, ea = .imm v → sz.fits v = true

/-- The effective address is read back from its two fields and its extension words (R94, R120). -/
theorem withEa_ext {α : Type} (sz : Size) (ea : Ea) (k : Ea → Parser α) (rest : List Word) (h : ea.immFits sz) :
    withEa sz ea.modeField ea.regField k (ea.ext sz ++ rest) = k ea rest := by
  cases ea with
  | imm v => exact withImm_immWords sz (fun v => k (.imm v)) v rest (h v rfl)
  | absL l => exact withLong_longWords (fun l => k (.absL l)) l rest
  | dreg | areg | ind | postinc | predec | disp | index | absW | pcDisp | pcIndex =>
    simp [withEa, Ea.modeField, Ea.regField, Ea.ext, withWord]

theorem Ea.regField_lt (ea : Ea) : ea.regField < 8 := by cases ea <;> simp only [Ea.regField] <;> omega
theorem Ea.modeField_lt (ea : Ea) : ea.modeField < 8 := by cases ea <;> simp only [Ea.modeField] <;> omega

theorem Ea.field0_lt (ea : Ea) : ea.field0 < 64 := by
  have := ea.regField_lt
  have := ea.modeField_lt
  simp only [Ea.field0]
  omega

/-- The effective address in bits 5 to 0, above which `base` stands. -/
theorem withEa0_ext {α : Type} {sz : Size} {ea : Ea} {w base : Nat} {k : Ea → Parser α} {rest : List Word}
    (h : ea.immFits sz) (hw : w = base + ea.field0) (hb : base % 64 = 0) :
    withEa0 sz w k (ea.ext sz ++ rest) = k ea rest := by
  have := ea.regField_lt
  have := ea.modeField_lt
  simp only [Ea.field0] at hw
  have hm : w / 8 % 8 = ea.modeField := by omega
  have hr : w % 8 = ea.regField := by omega
  rw [withEa0, hm, hr, withEa_ext sz ea k rest h]

/-- The destination of MOVE in bits 11 to 6. -/
theorem withEa6_ext {α : Type} {sz : Size} {src dst : Ea} {w base : Nat} {k : Ea → Parser α} {rest : List Word}
    (h : dst.immFits sz) (hw : w = base + dst.field6 + src.field0) (hb : base % 4096 = 0) :
    withEa6 sz w k (dst.ext sz ++ rest) = k dst rest := by
  have := dst.regField_lt
  have := dst.modeField_lt
  have := src.field0_lt
  simp only [Ea.field6] at hw
  have hm : w / 64 % 8 = dst.modeField := by omega
  have hr : w / 512 % 8 = dst.regField := by omega
  rw [withEa6, hm, hr, withEa_ext sz dst k rest h]

theorem reg9_eq {w base low : Nat} {r : Fin 8} (hw : w = base + r.val * 512 + low) (hl : low < 64)
    (hb : base / 512 % 8 = 0 ∧ base % 64 = 0) : reg9 w = r := by
  have : w / 512 % 8 = r.val := by omega
  rw [reg9, this, regOf_val]

theorem reg0_eq {w base : Nat} {r : Fin 8} (hw : w = base + r.val) (hb : base % 8 = 0) : reg0 w = r := by
  have : w % 8 = r.val := by omega
  rw [reg0, this, regOf_val]

/-! The shapes of the encoder's rows. -/

/-- A register in bits 11 to 9 and an effective address in bits 5 to 0. -/
theorem decode_encodeRegEa {n k base : Nat} {sz : Size} (C : Fin 8 → Ea → Instr) {r : Fin 8} {ea : Ea} {rest : List Word}
    (hwf : (C r ea).wf = true)
    (hrow : (opcodeLine n)[k]? = some ⟨0xF1C0, base, fun w => withEa0 sz w fun ea => .done (C (reg9 w) ea)⟩)
    (hbase : n < 16 ∧ base / 4096 = n ∧ base &&& 0xF1C0 = base) (himm : ea.immFits sz)
    (hbefore : ∀ x ∈ (opcodeLine n).take k, x.fits (base + r.val * 512 + ea.field0) = false) :
    decode (encodeRegEa base sz r ea ++ rest) = .ok (C r ea, rest) := by
  have := ea.field0_lt
  obtain ⟨hn, hline, hmask⟩ := hbase
  rw [land_F1C0] at hmask
  have hread (w : Nat) (hw : w = base + r.val * 512 + ea.field0) :
      withEa0 sz w (fun ea => .done (C (reg9 w) ea)) (ea.ext sz ++ rest) = .ok (C r ea, rest) := by
    rw [withEa0_ext himm hw (by omega), reg9_eq hw this (by omega)]
    rfl
  refine decode_of_row hwf hrow (by omega) (by omega) ?_ hbefore (hread _ rfl)
  simp only [Row.fits_mk, land_F1C0, beq_iff_eq]
  omega

/-- An effective address in bits 5 to 0. -/
theorem decode_encodeEa {n k base : Nat} {sz : Size} (C : Ea → Instr) {ea : Ea} {rest : List Word}
    (hwf : (C ea).wf = true)
    (hrow : (opcodeLine n)[k]? = some ⟨0xFFC0, base, fun w => withEa0 sz w fun ea => .done (C ea)⟩)
    (hbase : base < 65536 ∧ base / 4096 = n ∧ base % 64 = 0) (himm : ea.immFits sz)
    (hbefore : ∀ x ∈ (opcodeLine n).take k, x.fits (base + ea.field0) = false) :
    decode (encodeEa base sz ea ++ rest) = .ok (C ea, rest) := by
  have := ea.field0_lt
  obtain ⟨hlt, hline, hlow⟩ := hbase
  refine decode_of_row hwf hrow (by omega) (by omega) ?_ hbefore
    (withEa0_ext (k := fun ea => .done (C ea)) himm rfl hlow)
  simp only [Row.fits_mk, land_FFC0, beq_iff_eq]
  omega

/-- The size field in bits 7 to 6 is read back (R98). -/
theorem withSize_ss {α : Type} {sz : Size} {w : Nat} (k : Size → Parser α) (hw : w % 256 / 64 * 64 = sz.ss) :
    withSize w k = k sz := by
  cases sz with
  | byte =>
    have h : w / 64 % 4 = 0 := by simp only [Size.ss] at hw; omega
    simp only [withSize, h]
  | word =>
    have h : w / 64 % 4 = 1 := by simp only [Size.ss] at hw; omega
    simp only [withSize, h]
  | long =>
    have h : w / 64 % 4 = 2 := by simp only [Size.ss] at hw; omega
    simp only [withSize, h]

theorem Size.ss_le (sz : Size) : sz.ss ≤ 128 ∧ sz.ss % 64 = 0 := by cases sz <;> decide

/-- A size in bits 7 to 6 and an effective address in bits 5 to 0. -/
theorem decode_encodeEa_sized {n k base : Nat} {sz : Size} (C : Size → Ea → Instr) {ea : Ea} {rest : List Word}
    (hwf : (C sz ea).wf = true)
    (hrow : (opcodeLine n)[k]? = 
      some ⟨0xFF00, base, fun w => withSize w fun sz => withEa0 sz w fun ea => .done (C sz ea)⟩)
    (hbase : base < 65536 ∧ base / 4096 = n ∧ base % 256 = 0) (himm : ea.immFits sz)
    (hbefore : ∀ x ∈ (opcodeLine n).take k, x.fits (base + sz.ss + ea.field0) = false) :
    decode (encodeEa (base + sz.ss) sz ea ++ rest) = .ok (C sz ea, rest) := by
  have := ea.field0_lt
  have := sz.ss_le
  obtain ⟨hlt, hline, hlow⟩ := hbase
  have hread (w : Nat) (hw : w = base + sz.ss + ea.field0) :
      withSize w (fun sz => withEa0 sz w fun ea => .done (C sz ea)) (ea.ext sz ++ rest) = .ok (C sz ea, rest) := by
    rw [withSize_ss (sz := sz) _ (by omega), withEa0_ext himm hw (by omega)]
    rfl
  refine decode_of_row hwf hrow (by omega) (by omega) ?_ hbefore (hread _ rfl)
  simp only [Row.fits_mk, land_FF00, beq_iff_eq]
  omega

/-- An own second word and an effective address in bits 5 to 0. -/
theorem decode_encodeOwnEa {n k base : Nat} {sz : Size} {read : Nat → Parser Instr} {C : Ea → Instr} {own : Word}
    {ea : Ea} {rest : List Word} (hwf : (C ea).wf = true) (hrow : (opcodeLine n)[k]? = some ⟨0xFFC0, base, read⟩)
    (hown : ∀ w ws, read w (own :: ws) = withEa0 sz w (fun ea => .done (C ea)) ws)
    (hbase : base < 65536 ∧ base / 4096 = n ∧ base % 64 = 0) (himm : ea.immFits sz)
    (hbefore : ∀ x ∈ (opcodeLine n).take k, x.fits (base + ea.field0) = false) :
    decode (encodeOwnEa base sz own ea ++ rest) = .ok (C ea, rest) := by
  have := ea.field0_lt
  obtain ⟨hlt, hline, hlow⟩ := hbase
  refine decode_of_row hwf hrow (by omega) (by omega) ?_ hbefore
    ((hown _ _).trans (withEa0_ext (k := fun ea => .done (C ea)) himm rfl hlow))
  simp only [Row.fits_mk, land_FFC0, beq_iff_eq]
  omega

/-- MOVE: a source in bits 5 to 0, then a destination in bits 11 to 6. -/
theorem decode_encodeMove {n k base : Nat} {sz : Size} {C : Ea → Ea → Instr} {src dst : Ea} {rest : List Word}
    (hwf : (C src dst).wf = true)
    (hrow : (opcodeLine n)[k]? =
      some ⟨0xF000, base, fun w => withEa0 sz w fun s => withEa6 sz w fun d => .done (C s d)⟩)
    (hbase : n < 16 ∧ base = n * 4096) (hs : src.immFits sz) (hd : dst.immFits sz)
    (hbefore : ∀ x ∈ (opcodeLine n).take k, x.fits (base + dst.field6 + src.field0) = false) :
    decode (encodeMove base sz src dst ++ rest) = .ok (C src dst, rest) := by
  have := src.field0_lt
  have := dst.regField_lt
  have := dst.modeField_lt
  have hf : dst.field6 = dst.regField * 512 + dst.modeField * 64 := rfl
  obtain ⟨hn, hlow⟩ := hbase
  have hread (w : Nat) (hw : w = base + dst.field6 + src.field0) :
      withEa0 sz w (fun s => withEa6 sz w fun d => .done (C s d)) ((src.ext sz ++ dst.ext sz) ++ rest) =
        .ok (C src dst, rest) := by
    rw [List.append_assoc, withEa0_ext hs hw (by omega), withEa6_ext hd hw (by omega)]
    rfl
  refine decode_of_row hwf hrow (by omega) (by omega) ?_ hbefore (hread _ rfl)
  simp only [Row.fits_mk, land_F000, beq_iff_eq]
  omega

/-- A register in bits 2 to 0; `ws` are the words after the opword. -/
theorem decode_reg0 {n k base : Nat} (P : Fin 8 → Parser Instr) {r : Fin 8} {ws rest : List Word} {i : Instr}
    (hwf : i.wf = true) (hrow : (opcodeLine n)[k]? = some ⟨0xFFF8, base, fun w => P (reg0 w)⟩)
    (hbase : base < 65536 ∧ base / 4096 = n ∧ base % 8 = 0)
    (hbefore : ∀ x ∈ (opcodeLine n).take k, x.fits (base + r.val) = false) (hread : P r ws = .ok (i, rest)) :
    decode (op (base + r.val) :: ws) = .ok (i, rest) := by
  obtain ⟨hlt, hline, hlow⟩ := hbase
  refine decode_of_row hwf hrow (by omega) (by omega) ?_ hbefore ?_
  · simp only [Row.fits_mk, land_FFF8, beq_iff_eq]
    omega
  · exact (congrArg (P · ws) (reg0_eq rfl hlow)).trans hread

/-- A whole opword; `ws` are the words after it. -/
theorem decode_whole {n k base : Nat} {P : Parser Instr} {ws rest : List Word} {i : Instr}
    (hwf : i.wf = true) (hrow : (opcodeLine n)[k]? = some ⟨0xFFFF, base, fun _ => P⟩)
    (hbase : base < 65536 ∧ base / 4096 = n) (hbefore : ∀ x ∈ (opcodeLine n).take k, x.fits base = false)
    (hread : P ws = .ok (i, rest)) : decode (op base :: ws) = .ok (i, rest) := by
  refine decode_of_row hwf hrow hbase.1 hbase.2 ?_ hbefore hread
  simp only [Row.fits_mk, land_FFFF, beq_iff_eq]
  omega

/-- Bits 11 to 9 and 2 to 0. -/
theorem decode_two_regs {n k base : Nat} (C : Fin 8 → Fin 8 → Instr) {ry rx : Fin 8} {rest : List Word}
    (hwf : (C ry rx).wf = true)
    (hrow : (opcodeLine n)[k]? = some ⟨0xF1F8, base, fun w => .done (C (reg0 w) (reg9 w))⟩)
    (hbase : n < 16 ∧ base / 4096 = n ∧ base &&& 0xF1F8 = base)
    (hbefore : ∀ x ∈ (opcodeLine n).take k, x.fits (base + rx.val * 512 + ry.val) = false) :
    decode (op (base + rx.val * 512 + ry.val) :: rest) = .ok (C ry rx, rest) := by
  obtain ⟨hn, hline, hmask⟩ := hbase
  rw [land_F1F8] at hmask
  have hread (w : Nat) (hw : w = base + rx.val * 512 + ry.val) : C (reg0 w) (reg9 w) = C ry rx := by
    have h0 : w % 8 = ry.val := by omega
    have h9 : w / 512 % 8 = rx.val := by omega
    rw [reg0, reg9, h0, h9, regOf_val, regOf_val]
  refine decode_of_row hwf hrow (by omega) (by omega) ?_ hbefore ?_
  · simp only [Row.fits_mk, land_F1F8, beq_iff_eq]
    omega
  · exact congrArg (fun i => Except.ok (i, rest)) (hread _ rfl)

theorem ShiftCount.field_eq (cnt : ShiftCount) :
    ∃ c i, c < 8 ∧ i < 2 ∧ cnt.field = 512 * c + 32 * i ∧
      (if i = 1 then ShiftCount.reg (regOf c) else ShiftCount.imm (regOf c)) = cnt := by
  cases cnt with
  | imm c => exact ⟨c.val, 0, c.isLt, by decide, by simp only [ShiftCount.field]; omega, by simp⟩
  | reg dy => exact ⟨dy.val, 1, dy.isLt, by decide, by simp only [ShiftCount.field]; omega, by simp⟩

/-- A shift: a count in bits 11 to 9 and 5, a register in bits 2 to 0. -/
theorem decode_shift {n k base : Nat} (C : ShiftCount → Fin 8 → Instr) {cnt : ShiftCount} {dx : Fin 8} {rest : List Word}
    (hwf : (C cnt dx).wf = true)
    (hrow : (opcodeLine n)[k]? = some ⟨0xF1D8, base, fun w => .done (C (countOf w) (reg0 w))⟩)
    (hbase : n < 16 ∧ base / 4096 = n ∧ base &&& 0xF1D8 = base)
    (hbefore : ∀ x ∈ (opcodeLine n).take k, x.fits (base + cnt.field + dx.val) = false) :
    decode (op (base + cnt.field + dx.val) :: rest) = .ok (C cnt dx, rest) := by
  obtain ⟨hn, hline, hmask⟩ := hbase
  rw [land_F1D8] at hmask
  obtain ⟨c, i, hc, hi, hf, hcnt⟩ := cnt.field_eq
  have hread (w : Nat) (hw : w = base + cnt.field + dx.val) : C (countOf w) (reg0 w) = C cnt dx := by
    have h0 : w % 8 = dx.val := by omega
    have h9 : w / 512 % 8 = c := by omega
    have h5 : w / 32 % 2 = i := by omega
    rw [reg0, h0, regOf_val, countOf, reg9, h9, h5, hcnt]
  refine decode_of_row hwf hrow (by omega) (by omega) ?_ hbefore ?_
  · have h6 : (base + cnt.field + dx.val) / 64 % 8 = base / 64 % 8 := by omega
    have h3 : (base + cnt.field + dx.val) / 8 % 4 = base / 8 % 4 := by omega
    have h12 : (base + cnt.field + dx.val) / 4096 % 16 = base / 4096 % 16 := by omega
    rw [Row.fits_mk, land_F1D8, h6, h3, h12, hmask, beq_iff_eq]
  · exact congrArg (fun i => Except.ok (i, rest)) (hread _ rfl)

theorem condOf_code (c : Cond) : condOf c.code = c := by cases c <;> rfl
theorem Cond.code_lt (c : Cond) : c.code < 16 := by cases c <;> decide

/-- A branch displacement is read back from bits 7 to 0 and its words (R180). -/
theorem withDisp_encode {α : Type} {d : Disp} {base : Nat} {k : Disp → Parser α} {rest : List Word} (h : d.wf = true)
    (hb : base < 65536 ∧ base % 256 = 0) :
    ∃ w ws, d.encode base = op w :: ws ∧ base ≤ w ∧ w < base + 256 ∧ withDisp w k (ws ++ rest) = k d rest := by
  cases d with
  | byte d =>
    simp only [Disp.wf, Bool.and_eq_true, decide_eq_true_eq, ne_eq, ← BitVec.toNat_inj] at h
    simp at h
    refine ⟨base + d.toNat, [], rfl, by omega, by omega, ?_⟩
    have hd : BitVec.ofNat 8 (base + d.toNat) = d := by
      refine BitVec.eq_of_toNat_eq ?_
      simp only [BitVec.toNat_ofNat]
      omega
    rw [withDisp, if_neg (by omega), if_neg (by omega), hd]
    rfl
  | word d =>
    refine ⟨base, [d], rfl, by omega, by omega, ?_⟩
    rw [withDisp, if_pos (by omega)]
    rfl
  | long d =>
    refine ⟨base + 0xFF, longWords d, rfl, by omega, by omega, ?_⟩
    rw [withDisp, if_neg (by omega), if_pos (by omega), withLong_longWords]

/-- BRA and BSR: the opword's upper byte, then a displacement. -/
theorem decode_branch {n k base : Nat} (C : Disp → Instr) {d : Disp} {rest : List Word}
    (hwf : (C d).wf = true) (hd : d.wf = true)
    (hrow : (opcodeLine n)[k]? = some ⟨0xFF00, base, fun w => withDisp w fun d => .done (C d)⟩)
    (hbase : base < 65536 ∧ base / 4096 = n ∧ base % 256 = 0)
    (hbefore : ∀ w, base ≤ w → w < base + 256 → ∀ x ∈ (opcodeLine n).take k, x.fits w = false) :
    decode (d.encode base ++ rest) = .ok (C d, rest) := by
  obtain ⟨hlt, hline, hlow⟩ := hbase
  obtain ⟨w, ws, he, hlo, hhi, hread⟩ := withDisp_encode (k := fun d => .done (C d)) (rest := rest) hd ⟨hlt, hlow⟩
  rw [he]
  refine decode_of_row hwf hrow (by omega) (by omega) ?_ (hbefore w hlo hhi) hread
  simp only [Row.fits_mk, land_FF00, beq_iff_eq]
  omega

/-! What the classes of modes say about the encoding. -/

theorem Ea.immFits_of_any {sz : Size} {ea : Ea} (h : ea.any sz = true) : ea.immFits sz := by
  rintro v rfl; exact h
theorem Ea.immFits_of_data {sz : Size} {ea : Ea} (h : ea.data sz = true) : ea.immFits sz := by
  rintro v rfl; exact h
theorem Ea.immFits_of_dregOrImm {sz : Size} {ea : Ea} (h : ea.dregOrImm sz = true) : ea.immFits sz := by
  rintro v rfl; exact h
theorem Ea.immFits_of_alterable {sz : Size} {ea : Ea} (h : ea.alterable = true) : ea.immFits sz := by
  rintro v rfl; cases h
theorem Ea.immFits_of_dataAlterable {sz : Size} {ea : Ea} (h : ea.dataAlterable = true) : ea.immFits sz := by
  rintro v rfl; cases h
theorem Ea.immFits_of_memoryAlterable {sz : Size} {ea : Ea} (h : ea.memoryAlterable = true) : ea.immFits sz := by
  rintro v rfl; cases h
theorem Ea.immFits_of_control {sz : Size} {ea : Ea} (h : ea.control = true) : ea.immFits sz := by
  rintro v rfl; cases h
theorem Ea.immFits_of_short {sz : Size} {ea : Ea} (h : ea.short = true) : ea.immFits sz := by
  rintro v rfl; cases h
theorem Ea.immFits_of_block {sz : Size} {ea : Ea} (h : ea.block = true) : ea.immFits sz := by
  rintro v rfl; cases h
theorem Ea.immFits_of_bitTest {sz : Size} {ea : Ea} (h : ea.bitTest = true) : ea.immFits sz := by
  rintro v rfl; cases h

theorem Ea.field0_of_control {ea : Ea} (h : ea.control = true) : 16 ≤ ea.field0 := by
  cases ea <;> simp only [Ea.control, Bool.false_eq_true] at h <;>
    simp only [Ea.field0, Ea.modeField, Ea.regField] <;> omega

theorem Ea.field0_of_block {ea : Ea} (h : ea.block = true) : 16 ≤ ea.field0 := by
  cases ea <;> simp only [Ea.block, Bool.false_eq_true] at h <;>
    simp only [Ea.field0, Ea.modeField, Ea.regField] <;> omega

theorem Ea.field0_of_memoryAlterable {ea : Ea} (h : ea.memoryAlterable = true) : 16 ≤ ea.field0 ∧ ea.field0 < 58 := by
  cases ea <;> simp only [Ea.memoryAlterable, Bool.false_eq_true] at h <;>
    simp only [Ea.field0, Ea.modeField, Ea.regField] <;> omega

theorem Ea.modeField_of_dataAlterable {ea : Ea} (h : ea.dataAlterable = true) : ea.modeField ≠ 1 := by
  cases ea <;> simp [Ea.dataAlterable, Ea.memoryAlterable] at h <;> simp [Ea.modeField]

/-- The second word of a static bit instruction is its bit number (R115 (f)). -/
theorem withBitNumber_word {α : Type} (k : Byte → Parser α) (b : Byte) (ws : List Word) :
    withBitNumber k (b.setWidth 16 :: ws) = k b ws := by
  have hb : (b.setWidth 16).toNat = b.toNat := by
    rw [BitVec.toNat_setWidth]
    omega
  have hk : (b.setWidth 16).setWidth 8 = b := by simp
  rw [withBitNumber, withWord, if_pos (by omega), hk]

/-- The second word of the long multiplies (R104). -/
theorem withMul_word {α : Type} (k : Bool → Fin 8 → Parser α) (sg : Bool) (dx : Fin 8) (own : Word) (ws : List Word)
    (h : own = op (dx.val * 4096 + bitNat sg * 2048)) : withMul k (own :: ws) = k sg dx ws := by
  subst h
  cases sg <;> fin_cases dx <;> rfl

/-- The second word of the long divides (R104). -/
theorem withDiv_word {α : Type} (k : Bool → Fin 8 → Fin 8 → Parser α) (sg : Bool) (dw dx : Fin 8) (own : Word)
    (ws : List Word) (h : own = op (dx.val * 4096 + bitNat sg * 2048 + dw.val)) :
    withDiv k (own :: ws) = k sg dw dx ws := by
  subst h
  have hland (n : Nat) : n &&& 0x87F8 = 2 ^ 15 * (n / 2 ^ 15 % 2 ^ 1) + 2 ^ 3 * (n / 2 ^ 3 % 2 ^ 8) :=
    land_two_fields n 15 1 3 8 (by decide)
  have hs : bitNat sg < 2 ∧ (bitNat sg = 1 ↔ sg = true) := by cases sg <;> decide
  have hw : (op (dx.val * 4096 + bitNat sg * 2048 + dw.val)).toNat = dx.val * 4096 + bitNat sg * 2048 + dw.val := by
    simp only [op, BitVec.toNat_ofNat]
    omega
  have h0 : (dx.val * 4096 + bitNat sg * 2048 + dw.val) % 8 = dw.val := by omega
  have h12 : (dx.val * 4096 + bitNat sg * 2048 + dw.val) / 4096 % 8 = dx.val := by omega
  have h11 : (dx.val * 4096 + bitNat sg * 2048 + dw.val) / 2048 % 2 = bitNat sg := by omega
  rw [withDiv, withWord, hw, hland, if_pos (by omega), h0, h12, h11, regOf_val, regOf_val]
  simp [hs.2]

theorem movePair_iff {sz : Size} {src dst : Ea} (h : movePair sz src dst = true) :
    src.any sz = true ∧ dst.dataAlterable = true := by
  simp only [movePair, Bool.and_eq_true] at h
  exact h.1

theorem divInstr_same (sg : Bool) (src : Ea) (dx : Fin 8) :
    divInstr sg src dx dx = if sg then .divsL src dx else .divuL src dx := by
  simp [divInstr]

theorem divInstr_ne {sg : Bool} {src : Ea} {dw dx : Fin 8} (h : decide (dw ≠ dx) = true) :
    divInstr sg src dw dx = if sg then .remsL src dw dx else .remuL src dw dx := by
  rw [divInstr, if_neg (of_decide_eq_true h)]

/-- The cache field of CPUSHL in bits 7 to 6 (R111). -/
theorem withCache_field {α : Type} {c : CacheSel} {w : Nat} {k : CacheSel → Parser α} (hw : w / 64 % 4 = c.field / 64) :
    withCache w k = k c := by
  cases c <;> simp only [withCache, hw, CacheSel.field]

/-! Instruction by instruction, in the order of the encoder. -/

/-- The encoding of the instruction is read back, and the words after it are left. -/
def DecodeEncode.Statement (i : Instr) : Prop := i.wf = true → ∀ rest, decode (encode i ++ rest) = .ok (i, rest)

namespace DecodeEncode

theorem oriL (v : Long) (dx : Fin 8) : Statement (.oriL v dx) := fun h rest =>
  decode_reg0 (n := 0) (k := 0) (fun r => withLong fun v => .done (.oriL v r)) h rfl (by decide)
    (by simp) (withLong_longWords _ v rest)
theorem andiL (v : Long) (dx : Fin 8) : Statement (.andiL v dx) := fun h rest =>
  decode_reg0 (n := 0) (k := 1) (fun r => withLong fun v => .done (.andiL v r)) h rfl (by decide)
    (by simp only [opcodeLine, line0, none_fit_cons]; simp; omega) (withLong_longWords _ v rest)
theorem subiL (v : Long) (dx : Fin 8) : Statement (.subiL v dx) := fun h rest =>
  decode_reg0 (n := 0) (k := 2) (fun r => withLong fun v => .done (.subiL v r)) h rfl (by decide)
    (by simp only [opcodeLine, line0, none_fit_cons]; simp; omega) (withLong_longWords _ v rest)
theorem addiL (v : Long) (dx : Fin 8) : Statement (.addiL v dx) := fun h rest =>
  decode_reg0 (n := 0) (k := 3) (fun r => withLong fun v => .done (.addiL v r)) h rfl (by decide)
    (by simp only [opcodeLine, line0, none_fit_cons]; simp; omega) (withLong_longWords _ v rest)
theorem eoriL (v : Long) (dx : Fin 8) : Statement (.eoriL v dx) := fun h rest =>
  decode_reg0 (n := 0) (k := 4) (fun r => withLong fun v => .done (.eoriL v r)) h rfl (by decide)
    (by simp only [opcodeLine, line0, none_fit_cons]; simp; omega) (withLong_longWords _ v rest)
theorem bitrev (dx : Fin 8) : Statement (.bitrev dx) := fun h rest =>
  decode_reg0 (n := 0) (k := 5) (fun r => .done (.bitrev r)) h rfl (by decide)
    (by simp only [opcodeLine, line0, none_fit_cons]; simp; omega) rfl
theorem byterev (dx : Fin 8) : Statement (.byterev dx) := fun h rest =>
  decode_reg0 (n := 0) (k := 6) (fun r => .done (.byterev r)) h rfl (by decide)
    (by simp only [opcodeLine, line0, none_fit_cons]; simp; omega) rfl
theorem ff1 (dx : Fin 8) : Statement (.ff1 dx) := fun h rest =>
  decode_reg0 (n := 0) (k := 7) (fun r => .done (.ff1 r)) h rfl (by decide)
    (by simp only [opcodeLine, line0, none_fit_cons]; simp; omega) rfl
theorem btstImm (b : Byte) (ea : Ea) : Statement (.btstImm b ea) := by
  intro h rest
  have := ea.field0_lt
  exact decode_encodeOwnEa (n := 0) (k := 9) h rfl (fun w ws => withBitNumber_word _ b ws) (by decide)
    (Ea.immFits_of_short h) (by simp only [opcodeLine, line0, none_fit_cons]; simp; omega)
theorem bchgImm (b : Byte) (ea : Ea) : Statement (.bchgImm b ea) := by
  intro h rest
  have := ea.field0_lt
  exact decode_encodeOwnEa (n := 0) (k := 10) h rfl (fun w ws => withBitNumber_word _ b ws) (by decide)
    (Ea.immFits_of_short h) (by simp only [opcodeLine, line0, none_fit_cons]; simp; omega)
theorem bclrImm (b : Byte) (ea : Ea) : Statement (.bclrImm b ea) := by
  intro h rest
  have := ea.field0_lt
  exact decode_encodeOwnEa (n := 0) (k := 11) h rfl (fun w ws => withBitNumber_word _ b ws) (by decide)
    (Ea.immFits_of_short h) (by simp only [opcodeLine, line0, none_fit_cons]; simp; omega)
theorem bsetImm (b : Byte) (ea : Ea) : Statement (.bsetImm b ea) := by
  intro h rest
  have := ea.field0_lt
  exact decode_encodeOwnEa (n := 0) (k := 12) h rfl (fun w ws => withBitNumber_word _ b ws) (by decide)
    (Ea.immFits_of_short h) (by simp only [opcodeLine, line0, none_fit_cons]; simp; omega)
theorem btstReg (dy : Fin 8) (ea : Ea) : Statement (.btstReg dy ea) := by
  intro h rest
  have := Ea.field0_lt ea
  exact decode_encodeRegEa (n := 0) (k := 13) .btstReg h rfl (by decide)
    (Ea.immFits_of_bitTest h) (by simp only [opcodeLine, line0, none_fit_cons]; simp; omega)
theorem bchgReg (dy : Fin 8) (ea : Ea) : Statement (.bchgReg dy ea) := by
  intro h rest
  have := Ea.field0_lt ea
  exact decode_encodeRegEa (n := 0) (k := 14) .bchgReg h rfl (by decide)
    (Ea.immFits_of_dataAlterable h) (by simp only [opcodeLine, line0, none_fit_cons]; simp; omega)
theorem bclrReg (dy : Fin 8) (ea : Ea) : Statement (.bclrReg dy ea) := by
  intro h rest
  have := Ea.field0_lt ea
  exact decode_encodeRegEa (n := 0) (k := 15) .bclrReg h rfl (by decide)
    (Ea.immFits_of_dataAlterable h) (by simp only [opcodeLine, line0, none_fit_cons]; simp; omega)
theorem bsetReg (dy : Fin 8) (ea : Ea) : Statement (.bsetReg dy ea) := by
  intro h rest
  have := Ea.field0_lt ea
  exact decode_encodeRegEa (n := 0) (k := 16) .bsetReg h rfl (by decide)
    (Ea.immFits_of_dataAlterable h) (by simp only [opcodeLine, line0, none_fit_cons]; simp; omega)
theorem cmpi (sz : Size) (v : Long) (dx : Fin 8) : Statement (.cmpi sz v dx) := by
  intro h rest
  have := sz.ss_le
  have hread : (withSize (0x0C00 + sz.ss + dx.val) fun z => withImm z fun v =>
      Parser.done (Instr.cmpi z v (reg0 (0x0C00 + sz.ss + dx.val)))) (immWords sz v ++ rest) =
        .ok (.cmpi sz v dx, rest) := by
    rw [withSize_ss (sz := sz) _ (by omega), withImm_immWords _ _ v rest h, reg0_eq rfl (by omega)]
    rfl
  refine decode_of_row (n := 0) (k := 8) h rfl (by omega) (by omega) (by simp; omega)
    (by simp only [opcodeLine, line0, none_fit_cons]; simp; omega) ?_
  exact hread
theorem moveB (src dst : Ea) : Statement (.moveB src dst) := by
  intro h rest
  obtain ⟨hs, hd⟩ := movePair_iff h
  exact decode_encodeMove (n := 1) (k := 0) h rfl (by decide) (Ea.immFits_of_any hs) (Ea.immFits_of_dataAlterable hd)
    (by simp)
theorem moveW (src dst : Ea) : Statement (.moveW src dst) := by
  intro h rest
  obtain ⟨hs, hd⟩ := movePair_iff h
  have hmode := Ea.modeField_of_dataAlterable hd
  have := dst.modeField_lt
  have := dst.regField_lt
  have := src.field0_lt
  exact decode_encodeMove (n := 3) (k := 1) h rfl (by decide) (Ea.immFits_of_any hs) (Ea.immFits_of_dataAlterable hd)
    (by simp only [opcodeLine, line3, none_fit_cons, Ea.field6]; simp; omega)
theorem moveL (src dst : Ea) : Statement (.moveL src dst) := by
  intro h rest
  obtain ⟨hs, hd⟩ := movePair_iff h
  have hmode := Ea.modeField_of_dataAlterable hd
  have := dst.modeField_lt
  have := dst.regField_lt
  have := src.field0_lt
  exact decode_encodeMove (n := 2) (k := 1) h rfl (by decide) (Ea.immFits_of_any hs) (Ea.immFits_of_dataAlterable hd)
    (by simp only [opcodeLine, line2, none_fit_cons, Ea.field6]; simp; omega)
theorem moveaW (src : Ea) (r : Fin 8) : Statement (.moveaW src r) := by
  intro h rest
  have := src.field0_lt
  exact decode_encodeRegEa (n := 3) (k := 0) (fun r e => .moveaW e r) h rfl (by decide)
    (Ea.immFits_of_any h) (by simp)
theorem moveaL (src : Ea) (r : Fin 8) : Statement (.moveaL src r) := by
  intro h rest
  have := src.field0_lt
  exact decode_encodeRegEa (n := 2) (k := 0) (fun r e => .moveaL e r) h rfl (by decide)
    (Ea.immFits_of_any h) (by simp)
theorem negx (dx : Fin 8) : Statement (.negx dx) := fun h rest =>
  decode_reg0 (n := 4) (k := 9) (fun r => .done (.negx r)) h rfl (by decide)
    (by simp only [opcodeLine, line4, none_fit_cons]; simp; omega) rfl
theorem moveFromSr (dx : Fin 8) : Statement (.moveFromSr dx) := fun h rest =>
  decode_reg0 (n := 4) (k := 10) (fun r => .done (.moveFromSr r)) h rfl (by decide)
    (by simp only [opcodeLine, line4, none_fit_cons]; simp; omega) rfl
theorem lea (src : Ea) (r : Fin 8) : Statement (.lea src r) := by
  intro h rest
  have := src.field0_lt
  have := Ea.field0_of_control h
  exact decode_encodeRegEa (n := 4) (k := 36) (fun r e => .lea e r) h rfl (by decide)
    (Ea.immFits_of_control h) (by simp only [opcodeLine, line4, none_fit_cons]; simp; omega)
theorem clr (sz : Size) (ea : Ea) : Statement (.clr sz ea) := by
  intro h rest
  have := ea.field0_lt
  have := sz.ss_le
  exact decode_encodeEa_sized (n := 4) (k := 34) .clr h rfl (by decide) (Ea.immFits_of_dataAlterable h)
    (by simp only [opcodeLine, line4, none_fit_cons]; simp; omega)
theorem moveFromCcr (dx : Fin 8) : Statement (.moveFromCcr dx) := fun h rest =>
  decode_reg0 (n := 4) (k := 11) (fun r => .done (.moveFromCcr r)) h rfl (by decide)
    (by simp only [opcodeLine, line4, none_fit_cons]; simp; omega) rfl
theorem neg (dx : Fin 8) : Statement (.neg dx) := fun h rest =>
  decode_reg0 (n := 4) (k := 12) (fun r => .done (.neg r)) h rfl (by decide)
    (by simp only [opcodeLine, line4, none_fit_cons]; simp; omega) rfl
theorem moveToCcr (ea : Ea) : Statement (.moveToCcr ea) := by
  intro h rest
  have := ea.field0_lt
  exact decode_encodeEa (n := 4) (k := 24) .moveToCcr h rfl (by decide) (Ea.immFits_of_dregOrImm h)
    (by simp only [opcodeLine, line4, none_fit_cons]; simp; omega)
theorem not (dx : Fin 8) : Statement (.not dx) := fun h rest =>
  decode_reg0 (n := 4) (k := 13) (fun r => .done (.not r)) h rfl (by decide)
    (by simp only [opcodeLine, line4, none_fit_cons]; simp; omega) rfl
theorem moveToSr (ea : Ea) : Statement (.moveToSr ea) := by
  intro h rest
  have := ea.field0_lt
  exact decode_encodeEa (n := 4) (k := 25) .moveToSr h rfl (by decide) (Ea.immFits_of_dregOrImm h)
    (by simp only [opcodeLine, line4, none_fit_cons]; simp; omega)
theorem swap (dx : Fin 8) : Statement (.swap dx) := fun h rest =>
  decode_reg0 (n := 4) (k := 14) (fun r => .done (.swap r)) h rfl (by decide)
    (by simp only [opcodeLine, line4, none_fit_cons]; simp; omega) rfl
theorem pea (ea : Ea) : Statement (.pea ea) := by
  intro h rest
  have := ea.field0_lt
  have := Ea.field0_of_control h
  exact decode_encodeEa (n := 4) (k := 26) .pea h rfl (by decide) (Ea.immFits_of_control h)
    (by simp only [opcodeLine, line4, none_fit_cons]; simp; omega)
theorem extW (dx : Fin 8) : Statement (.extW dx) := fun h rest =>
  decode_reg0 (n := 4) (k := 15) (fun r => .done (.extW r)) h rfl (by decide)
    (by simp only [opcodeLine, line4, none_fit_cons]; simp; omega) rfl
theorem extL (dx : Fin 8) : Statement (.extL dx) := fun h rest =>
  decode_reg0 (n := 4) (k := 16) (fun r => .done (.extL r)) h rfl (by decide)
    (by simp only [opcodeLine, line4, none_fit_cons]; simp; omega) rfl
theorem movemStore (m : Word) (ea : Ea) : Statement (.movemStore m ea) := by
  intro h rest
  have := ea.field0_lt
  have := Ea.field0_of_block h
  exact decode_encodeOwnEa (n := 4) (k := 27) h rfl (fun _ _ => rfl) (by decide) (Ea.immFits_of_block h)
    (by simp only [opcodeLine, line4, none_fit_cons]; simp; omega)
theorem extbL (dx : Fin 8) : Statement (.extbL dx) := fun h rest =>
  decode_reg0 (n := 4) (k := 17) (fun r => .done (.extbL r)) h rfl (by decide)
    (by simp only [opcodeLine, line4, none_fit_cons]; simp; omega) rfl
theorem tst (sz : Size) (ea : Ea) : Statement (.tst sz ea) := by
  intro h rest
  have := ea.field0_lt
  have := sz.ss_le
  exact decode_encodeEa_sized (n := 4) (k := 35) .tst h rfl (by decide) (Ea.immFits_of_any h)
    (by simp only [opcodeLine, line4, none_fit_cons]; simp; omega)
theorem tas (ea : Ea) : Statement (.tas ea) := by
  intro h rest
  have := ea.field0_lt
  have := Ea.field0_of_memoryAlterable h
  exact decode_encodeEa (n := 4) (k := 28) .tas h rfl (by decide) (Ea.immFits_of_memoryAlterable h)
    (by simp only [opcodeLine, line4, none_fit_cons]; simp; omega)
theorem halt : Statement (.halt) := fun h rest =>
  decode_whole (n := 4) (k := 1) h rfl (by decide) (by simp [opcodeLine, line4]) rfl
theorem pulse : Statement (.pulse) := fun h rest =>
  decode_whole (n := 4) (k := 2) h rfl (by decide) (by simp [opcodeLine, line4]) rfl
theorem illegal : Statement (.illegal) := fun h rest =>
  decode_whole (n := 4) (k := 3) h rfl (by decide) (by simp [opcodeLine, line4]) rfl
theorem sats (dx : Fin 8) : Statement (.sats dx) := fun h rest =>
  decode_reg0 (n := 4) (k := 18) (fun r => .done (.sats r)) h rfl (by decide)
    (by simp only [opcodeLine, line4, none_fit_cons]; simp; omega) rfl
theorem movemLoad (m : Word) (ea : Ea) : Statement (.movemLoad m ea) := by
  intro h rest
  have := ea.field0_lt
  have := Ea.field0_of_block h
  exact decode_encodeOwnEa (n := 4) (k := 31) h rfl (fun _ _ => rfl) (by decide) (Ea.immFits_of_block h)
    (by simp only [opcodeLine, line4, none_fit_cons]; simp; omega)
theorem trap (v : Fin 16) : Statement (.trap v) := by
  intro h rest
  have hv : Fin.ofNat 16 (0x4E40 + v.val) = v := by
    refine Fin.ext ?_
    simp only [Fin.ofNat]
    omega
  exact decode_of_row (n := 4) (k := 23) h rfl (by omega) (by omega) (by simp; omega)
   
      (by simp only [opcodeLine, line4, none_fit_cons]; simp; omega) (congrArg (fun v => Except.ok (Instr.trap v, rest)) hv)
theorem link (ay : Fin 8) (d : Word) : Statement (.link ay d) := fun h rest =>
  decode_reg0 (n := 4) (k := 19) (fun r => withWord fun d => .done (.link r d)) h rfl (by decide)
    (by simp only [opcodeLine, line4, none_fit_cons]; simp; omega) rfl
theorem unlk (dx : Fin 8) : Statement (.unlk dx) := fun h rest =>
  decode_reg0 (n := 4) (k := 20) (fun r => .done (.unlk r)) h rfl (by decide)
    (by simp only [opcodeLine, line4, none_fit_cons]; simp; omega) rfl
theorem moveToUsp (dx : Fin 8) : Statement (.moveToUsp dx) := fun h rest =>
  decode_reg0 (n := 4) (k := 21) (fun r => .done (.moveToUsp r)) h rfl (by decide)
    (by simp only [opcodeLine, line4, none_fit_cons]; simp; omega) rfl
theorem moveFromUsp (dx : Fin 8) : Statement (.moveFromUsp dx) := fun h rest =>
  decode_reg0 (n := 4) (k := 22) (fun r => .done (.moveFromUsp r)) h rfl (by decide)
    (by simp only [opcodeLine, line4, none_fit_cons]; simp; omega) rfl
theorem nop : Statement (.nop) := fun h rest =>
  decode_whole (n := 4) (k := 4) h rfl (by decide) (by simp [opcodeLine, line4]) rfl
theorem stop (v : Word) : Statement (.stop v) := fun h rest =>
  decode_whole (n := 4) (k := 5) h rfl (by decide) (by simp [opcodeLine, line4]) rfl
theorem rte : Statement (.rte) := fun h rest =>
  decode_whole (n := 4) (k := 6) h rfl (by decide) (by simp [opcodeLine, line4]) rfl
theorem rts : Statement (.rts) := fun h rest =>
  decode_whole (n := 4) (k := 7) h rfl (by decide) (by simp [opcodeLine, line4]) rfl
theorem movec (rn : Fin 16) (rc : BitVec 12) : Statement (.movec rn rc) := by
  intro h rest
  have hrc : rc.toNat < 4096 := rc.isLt
  have hn : (op (rn.val * 4096 + rc.toNat)).toNat = rn.val * 4096 + rc.toNat := by
    simp only [op, BitVec.toNat_ofNat]
    omega
  have hreg : Fin.ofNat 16 ((op (rn.val * 4096 + rc.toNat)).toNat / 4096) = rn := by
    refine Fin.ext ?_
    simp only [Fin.ofNat, hn]
    omega
  have hctl : (op (rn.val * 4096 + rc.toNat)).setWidth 12 = rc := by
    refine BitVec.eq_of_toNat_eq ?_
    rw [BitVec.toNat_setWidth, hn]
    omega
  refine decode_whole (n := 4) (k := 8) h rfl (by decide) (by simp [opcodeLine, line4]) ?_
  exact congrArg (fun i => Except.ok (i, rest)) (congrArg₂ Instr.movec hreg hctl)
theorem jsr (ea : Ea) : Statement (.jsr ea) := by
  intro h rest
  have := ea.field0_lt
  exact decode_encodeEa (n := 4) (k := 32) .jsr h rfl (by decide) (Ea.immFits_of_control h)
    (by simp only [opcodeLine, line4, none_fit_cons]; simp; omega)
theorem jmp (ea : Ea) : Statement (.jmp ea) := by
  intro h rest
  have := ea.field0_lt
  exact decode_encodeEa (n := 4) (k := 33) .jmp h rfl (by decide) (Ea.immFits_of_control h)
    (by simp only [opcodeLine, line4, none_fit_cons]; simp; omega)
theorem stldsr (v : Word) : Statement (.stldsr v) := fun h rest =>
  decode_whole (n := 4) (k := 0) h rfl (by decide) (by simp) rfl
theorem muluL (src : Ea) (dx : Fin 8) : Statement (.muluL src dx) := by
  intro h rest
  have := src.field0_lt
  exact decode_encodeOwnEa (C := fun e => .muluL e dx) (n := 4) (k := 29) h rfl
    (fun w ws => withMul_word _ false dx _ ws (by simp [bitNat])) (by decide)
    (Ea.immFits_of_short h) (by simp only [opcodeLine, line4, none_fit_cons]; simp; omega)
theorem mulsL (src : Ea) (dx : Fin 8) : Statement (.mulsL src dx) := by
  intro h rest
  have := src.field0_lt
  exact decode_encodeOwnEa (C := fun e => .mulsL e dx) (n := 4) (k := 29) h rfl
    (fun w ws => withMul_word _ true dx _ ws (by simp [bitNat])) (by decide)
    (Ea.immFits_of_short h) (by simp only [opcodeLine, line4, none_fit_cons]; simp; omega)
theorem divuL (src : Ea) (dx : Fin 8) : Statement (.divuL src dx) := by
  intro h rest
  have := src.field0_lt
  exact decode_encodeOwnEa (C := fun e => .divuL e dx) (n := 4) (k := 30) h rfl
    (fun w ws => (withDiv_word _ false dx dx _ ws (by simp [bitNat])).trans (by simp only [divInstr_same]; rfl)) (by decide)
    (Ea.immFits_of_short h) (by simp only [opcodeLine, line4, none_fit_cons]; simp; omega)
theorem divsL (src : Ea) (dx : Fin 8) : Statement (.divsL src dx) := by
  intro h rest
  have := src.field0_lt
  exact decode_encodeOwnEa (C := fun e => .divsL e dx) (n := 4) (k := 30) h rfl
    (fun w ws => (withDiv_word _ true dx dx _ ws (by simp [bitNat])).trans (by simp only [divInstr_same]; rfl)) (by decide)
    (Ea.immFits_of_short h) (by simp only [opcodeLine, line4, none_fit_cons]; simp; omega)
theorem remuL (src : Ea) (dw dx : Fin 8) : Statement (.remuL src dw dx) := by
  intro h rest
  have := src.field0_lt
  obtain ⟨hs, hne⟩ := (Bool.and_eq_true _ _).mp h
  exact decode_encodeOwnEa (C := fun e => .remuL e dw dx) (n := 4) (k := 30) h rfl
    (fun w ws => (withDiv_word _ false dw dx _ ws (by simp [bitNat])).trans (by simp only [divInstr_ne hne]; rfl))
    (by decide) (Ea.immFits_of_short hs) (by simp only [opcodeLine, line4, none_fit_cons]; simp; omega)
theorem remsL (src : Ea) (dw dx : Fin 8) : Statement (.remsL src dw dx) := by
  intro h rest
  have := src.field0_lt
  obtain ⟨hs, hne⟩ := (Bool.and_eq_true _ _).mp h
  exact decode_encodeOwnEa (C := fun e => .remsL e dw dx) (n := 4) (k := 30) h rfl
    (fun w ws => (withDiv_word _ true dw dx _ ws (by simp [bitNat])).trans (by simp only [divInstr_ne hne]; rfl))
    (by decide) (Ea.immFits_of_short hs) (by simp only [opcodeLine, line4, none_fit_cons]; simp; omega)
theorem addq (q : Fin 8) (ea : Ea) : Statement (.addq q ea) := by
  intro h rest
  have := Ea.field0_lt ea
  exact decode_encodeRegEa (n := 5) (k := 4) .addq h rfl (by decide)
    (Ea.immFits_of_alterable h) (by simp only [opcodeLine, line5, none_fit_cons]; simp; omega)
theorem subq (q : Fin 8) (ea : Ea) : Statement (.subq q ea) := by
  intro h rest
  have := Ea.field0_lt ea
  exact decode_encodeRegEa (n := 5) (k := 5) .subq h rfl (by decide)
    (Ea.immFits_of_alterable h) (by simp only [opcodeLine, line5, none_fit_cons]; simp; omega)
theorem scc (c : Cond) (dx : Fin 8) : Statement (.scc c dx) := by
  intro h rest
  have := c.code_lt
  have hc : (0x50C0 + c.code * 256 + dx.val) / 256 % 16 = c.code := by omega
  refine decode_of_row (n := 5) (k := 3) h rfl (by omega) (by omega) (by simp; omega)
    (by simp only [opcodeLine, line5, none_fit_cons]; simp; omega) ?_
  simp only [hc, condOf_code, reg0_eq (base := 0x50C0 + c.code * 256) rfl (by omega)]
  rfl
theorem tpf : Statement (.tpf) := fun h rest =>
  decode_whole (n := 5) (k := 0) h rfl (by decide) (by simp) rfl
theorem tpfW (v : Word) : Statement (.tpfW v) := fun h rest =>
  decode_whole (n := 5) (k := 1) h rfl (by decide) (by simp [opcodeLine, line5]) rfl
theorem tpfL (v u : Word) : Statement (.tpfL v u) := fun h rest =>
  decode_whole (n := 5) (k := 2) h rfl (by decide) (by simp [opcodeLine, line5]) rfl
theorem bra (d : Disp) : Statement (.bra d) := fun h rest =>
  decode_branch (n := 6) (k := 0) .bra h h rfl (by decide) (fun w hlo hhi => by simp)
theorem bsr (d : Disp) : Statement (.bsr d) := fun h rest =>
  decode_branch (n := 6) (k := 1) .bsr h h rfl (by decide)
    (fun w hlo hhi => by simp only [opcodeLine, line6, none_fit_cons]; simp; omega)
theorem bcc (c : Cond) (d : Disp) : Statement (.bcc c d) := by
  intro h rest
  have := c.code_lt
  obtain ⟨hc, hd⟩ := (Bool.and_eq_true _ _).mp h
  have hcode : 2 ≤ c.code := by revert hc; cases c <;> decide
  obtain ⟨w, ws, he, hlo, hhi, hread⟩ := withDisp_encode (d := d) (base := 0x6000 + c.code * 256)
    (k := fun d => Parser.done (Instr.bcc c d)) (rest := rest) hd (by omega)
  have hw : w / 256 % 16 = c.code := by omega
  rw [encode, he]
  refine decode_of_row (n := 6) (k := 2) h rfl (by omega) (by omega) (by simp; omega)
    (by simp only [opcodeLine, line6, none_fit_cons]; simp; omega) ?_
  change withDisp w (fun d => Parser.done (Instr.bcc (condOf (w / 256 % 16)) d)) (ws ++ rest) = _
  rw [hw, condOf_code]
  exact hread
theorem moveq (d : Byte) (dx : Fin 8) : Statement (.moveq d dx) := by
  intro h rest
  have hd : BitVec.ofNat 8 (0x7000 + dx.val * 512 + d.toNat) = d := by
    refine BitVec.eq_of_toNat_eq ?_
    simp only [BitVec.toNat_ofNat]
    omega
  have hr : (0x7000 + dx.val * 512 + d.toNat) / 512 % 8 = dx.val := by omega
  refine decode_of_row (n := 7) (k := 4) h rfl (by omega) (by omega) (by simp; omega)
    (by simp only [opcodeLine, line7, none_fit_cons]; simp; omega) ?_
  simp only [hd, reg9, hr, regOf_val]
  rfl
theorem mvs (sz : Size) (src : Ea) (dx : Fin 8) : Statement (.mvs sz src dx) := by
  intro h rest
  have := src.field0_lt
  obtain ⟨hsz, hs⟩ := (Bool.and_eq_true _ _).mp h
  cases sz with
  | byte =>
    exact decode_encodeRegEa (n := 7) (k := 0) (base := 0x7100) (fun r e => .mvs .byte e r) h rfl (by decide)
      (Ea.immFits_of_any hs) (by simp)
  | word =>
    exact decode_encodeRegEa (n := 7) (k := 1) (base := 0x7140) (fun r e => .mvs .word e r) h rfl (by decide)
      (Ea.immFits_of_any hs) (by simp only [opcodeLine, line7, none_fit_cons]; simp; omega)
  | long => cases hsz
theorem mvz (sz : Size) (src : Ea) (dx : Fin 8) : Statement (.mvz sz src dx) := by
  intro h rest
  have := src.field0_lt
  obtain ⟨hsz, hs⟩ := (Bool.and_eq_true _ _).mp h
  cases sz with
  | byte =>
    exact decode_encodeRegEa (n := 7) (k := 2) (base := 0x7180) (fun r e => .mvz .byte e r) h rfl (by decide)
      (Ea.immFits_of_any hs) (by simp only [opcodeLine, line7, none_fit_cons]; simp; omega)
  | word =>
    exact decode_encodeRegEa (n := 7) (k := 3) (base := 0x71c0) (fun r e => .mvz .word e r) h rfl (by decide)
      (Ea.immFits_of_any hs) (by simp only [opcodeLine, line7, none_fit_cons]; simp; omega)
  | long => cases hsz
theorem orEaDn (src : Ea) (r : Fin 8) : Statement (.orEaDn src r) := by
  intro h rest
  have := src.field0_lt
  exact decode_encodeRegEa (n := 8) (k := 0) (fun r e => .orEaDn e r) h rfl (by decide)
    (Ea.immFits_of_data h) (by simp)
theorem orDnEa (dy : Fin 8) (dst : Ea) : Statement (.orDnEa dy dst) := by
  intro h rest
  have := Ea.field0_lt dst
  exact decode_encodeRegEa (n := 8) (k := 2) .orDnEa h rfl (by decide)
    (Ea.immFits_of_memoryAlterable h) (by simp only [opcodeLine, line8, none_fit_cons]; simp; omega)
theorem divuW (src : Ea) (r : Fin 8) : Statement (.divuW src r) := by
  intro h rest
  have := src.field0_lt
  exact decode_encodeRegEa (n := 8) (k := 1) (fun r e => .divuW e r) h rfl (by decide)
    (Ea.immFits_of_data h) (by simp only [opcodeLine, line8, none_fit_cons]; simp; omega)
theorem divsW (src : Ea) (r : Fin 8) : Statement (.divsW src r) := by
  intro h rest
  have := src.field0_lt
  exact decode_encodeRegEa (n := 8) (k := 3) (fun r e => .divsW e r) h rfl (by decide)
    (Ea.immFits_of_data h) (by simp only [opcodeLine, line8, none_fit_cons]; simp; omega)
theorem subEaDn (src : Ea) (r : Fin 8) : Statement (.subEaDn src r) := by
  intro h rest
  have := src.field0_lt
  exact decode_encodeRegEa (n := 9) (k := 1) (fun r e => .subEaDn e r) h rfl (by decide)
    (Ea.immFits_of_any h) (by simp only [opcodeLine, line9, none_fit_cons]; simp; omega)
theorem subDnEa (dy : Fin 8) (dst : Ea) : Statement (.subDnEa dy dst) := by
  intro h rest
  have := Ea.field0_lt dst
  have := Ea.field0_of_memoryAlterable h
  exact decode_encodeRegEa (n := 9) (k := 2) .subDnEa h rfl (by decide)
    (Ea.immFits_of_memoryAlterable h) (by simp only [opcodeLine, line9, none_fit_cons]; simp; omega)
theorem subx (dy dx : Fin 8) : Statement (.subx dy dx) := fun h rest =>
  decode_two_regs (n := 9) (k := 0) .subx h rfl (by decide) (by simp)
theorem suba (src : Ea) (r : Fin 8) : Statement (.suba src r) := by
  intro h rest
  have := src.field0_lt
  exact decode_encodeRegEa (n := 9) (k := 3) (fun r e => .suba e r) h rfl (by decide)
    (Ea.immFits_of_any h) (by simp only [opcodeLine, line9, none_fit_cons]; simp; omega)
theorem cmp (sz : Size) (src : Ea) (dx : Fin 8) : Statement (.cmp sz src dx) := by
  intro h rest
  have := src.field0_lt
  cases sz with
  | byte =>
    exact decode_encodeRegEa (n := 11) (k := 0) (base := 0xb000) (fun r e => .cmp .byte e r) h rfl (by decide)
      (Ea.immFits_of_any h) (by simp)
  | word =>
    exact decode_encodeRegEa (n := 11) (k := 1) (base := 0xb040) (fun r e => .cmp .word e r) h rfl (by decide)
      (Ea.immFits_of_any h) (by simp only [opcodeLine, lineB, none_fit_cons]; simp; omega)
  | long =>
    exact decode_encodeRegEa (n := 11) (k := 2) (base := 0xb080) (fun r e => .cmp .long e r) h rfl (by decide)
      (Ea.immFits_of_any h) (by simp only [opcodeLine, lineB, none_fit_cons]; simp; omega)
theorem cmpaW (src : Ea) (r : Fin 8) : Statement (.cmpaW src r) := by
  intro h rest
  have := src.field0_lt
  exact decode_encodeRegEa (n := 11) (k := 3) (fun r e => .cmpaW e r) h rfl (by decide)
    (Ea.immFits_of_any h) (by simp only [opcodeLine, lineB, none_fit_cons]; simp; omega)
theorem cmpaL (src : Ea) (r : Fin 8) : Statement (.cmpaL src r) := by
  intro h rest
  have := src.field0_lt
  exact decode_encodeRegEa (n := 11) (k := 5) (fun r e => .cmpaL e r) h rfl (by decide)
    (Ea.immFits_of_any h) (by simp only [opcodeLine, lineB, none_fit_cons]; simp; omega)
theorem eor (dy : Fin 8) (dst : Ea) : Statement (.eor dy dst) := by
  intro h rest
  have := Ea.field0_lt dst
  exact decode_encodeRegEa (n := 11) (k := 4) .eor h rfl (by decide)
    (Ea.immFits_of_dataAlterable h) (by simp only [opcodeLine, lineB, none_fit_cons]; simp; omega)
theorem andEaDn (src : Ea) (r : Fin 8) : Statement (.andEaDn src r) := by
  intro h rest
  have := src.field0_lt
  exact decode_encodeRegEa (n := 12) (k := 0) (fun r e => .andEaDn e r) h rfl (by decide)
    (Ea.immFits_of_data h) (by simp)
theorem andDnEa (dy : Fin 8) (dst : Ea) : Statement (.andDnEa dy dst) := by
  intro h rest
  have := Ea.field0_lt dst
  exact decode_encodeRegEa (n := 12) (k := 2) .andDnEa h rfl (by decide)
    (Ea.immFits_of_memoryAlterable h) (by simp only [opcodeLine, lineC, none_fit_cons]; simp; omega)
theorem muluW (src : Ea) (r : Fin 8) : Statement (.muluW src r) := by
  intro h rest
  have := src.field0_lt
  exact decode_encodeRegEa (n := 12) (k := 1) (fun r e => .muluW e r) h rfl (by decide)
    (Ea.immFits_of_data h) (by simp only [opcodeLine, lineC, none_fit_cons]; simp; omega)
theorem mulsW (src : Ea) (r : Fin 8) : Statement (.mulsW src r) := by
  intro h rest
  have := src.field0_lt
  exact decode_encodeRegEa (n := 12) (k := 3) (fun r e => .mulsW e r) h rfl (by decide)
    (Ea.immFits_of_data h) (by simp only [opcodeLine, lineC, none_fit_cons]; simp; omega)
theorem addEaDn (src : Ea) (r : Fin 8) : Statement (.addEaDn src r) := by
  intro h rest
  have := src.field0_lt
  exact decode_encodeRegEa (n := 13) (k := 1) (fun r e => .addEaDn e r) h rfl (by decide)
    (Ea.immFits_of_any h) (by simp only [opcodeLine, lineD, none_fit_cons]; simp; omega)
theorem addDnEa (dy : Fin 8) (dst : Ea) : Statement (.addDnEa dy dst) := by
  intro h rest
  have := Ea.field0_lt dst
  have := Ea.field0_of_memoryAlterable h
  exact decode_encodeRegEa (n := 13) (k := 2) .addDnEa h rfl (by decide)
    (Ea.immFits_of_memoryAlterable h) (by simp only [opcodeLine, lineD, none_fit_cons]; simp; omega)
theorem addx (dy dx : Fin 8) : Statement (.addx dy dx) := fun h rest =>
  decode_two_regs (n := 13) (k := 0) .addx h rfl (by decide) (by simp)
theorem adda (src : Ea) (r : Fin 8) : Statement (.adda src r) := by
  intro h rest
  have := src.field0_lt
  exact decode_encodeRegEa (n := 13) (k := 3) (fun r e => .adda e r) h rfl (by decide)
    (Ea.immFits_of_any h) (by simp only [opcodeLine, lineD, none_fit_cons]; simp; omega)
theorem mov3q (q : Fin 8) (dst : Ea) : Statement (.mov3q q dst) := by
  intro h rest
  have := Ea.field0_lt dst
  exact decode_encodeRegEa (n := 10) (k := 0) .mov3q h rfl (by decide)
    (Ea.immFits_of_alterable h) (by simp)
theorem asl (cnt : ShiftCount) (dx : Fin 8) : Statement (.asl cnt dx) := by
  intro h rest
  obtain ⟨c, i, hc, hi, hf, -⟩ := cnt.field_eq
  exact decode_shift (n := 14) (k := 1) .asl h rfl (by decide)
    (by simp only [opcodeLine, lineE, none_fit_cons]; simp; omega)
theorem asr (cnt : ShiftCount) (dx : Fin 8) : Statement (.asr cnt dx) := fun h rest =>
  decode_shift (n := 14) (k := 0) .asr h rfl (by decide) (by simp)
theorem lsl (cnt : ShiftCount) (dx : Fin 8) : Statement (.lsl cnt dx) := by
  intro h rest
  obtain ⟨c, i, hc, hi, hf, -⟩ := cnt.field_eq
  exact decode_shift (n := 14) (k := 3) .lsl h rfl (by decide)
    (by simp only [opcodeLine, lineE, none_fit_cons]; simp; omega)
theorem lsr (cnt : ShiftCount) (dx : Fin 8) : Statement (.lsr cnt dx) := by
  intro h rest
  obtain ⟨c, i, hc, hi, hf, -⟩ := cnt.field_eq
  exact decode_shift (n := 14) (k := 2) .lsr h rfl (by decide)
    (by simp only [opcodeLine, lineE, none_fit_cons]; simp; omega)
theorem cpushl (c : CacheSel) (ax : Fin 8) : Statement (.cpushl c ax) := by
  intro h rest
  have hc : 64 ≤ c.field ∧ c.field ≤ 192 ∧ c.field % 64 = 0 := by cases c <;> decide
  have hread : (withCache (0xF428 + c.field + ax.val) fun k =>
      Parser.done (Instr.cpushl k (reg0 (0xF428 + c.field + ax.val)))) rest = .ok (.cpushl c ax, rest) := by
    rw [withCache_field (c := c) (by omega), reg0_eq (base := 0xF428 + c.field) rfl (by omega)]
    rfl
  refine decode_of_row (n := 15) (k := 1) h rfl (by omega) (by omega) (by simp; omega)
    (by simp only [opcodeLine, lineF, none_fit_cons]; simp; omega) ?_
  exact hread
theorem intouch (ay : Fin 8) : Statement (.intouch ay) := fun h rest =>
  decode_reg0 (n := 15) (k := 0) (fun r => .done (.intouch r)) h rfl (by decide) (by simp) rfl
theorem wddata (sz : Size) (src : Ea) : Statement (.wddata sz src) := by
  intro h rest
  have := src.field0_lt
  have := sz.ss_le
  exact decode_encodeEa_sized (n := 15) (k := 3) .wddata h rfl (by decide) (Ea.immFits_of_memoryAlterable h)
    (by simp only [opcodeLine, lineF, none_fit_cons]; simp; omega)
theorem wdebug (src : Ea) : Statement (.wdebug src) := by
  intro h rest
  have := src.field0_lt
  exact decode_encodeOwnEa (n := 15) (k := 2) h rfl (fun _ _ => rfl) (by decide) (Ea.immFits_of_block h)
    (by simp only [opcodeLine, lineF, none_fit_cons]; simp; omega)

end DecodeEncode

theorem decode_encode (i : Instr) : DecodeEncode.Statement i := by
  cases i with
  | oriL imm dx => exact DecodeEncode.oriL imm dx
  | andiL imm dx => exact DecodeEncode.andiL imm dx
  | subiL imm dx => exact DecodeEncode.subiL imm dx
  | addiL imm dx => exact DecodeEncode.addiL imm dx
  | eoriL imm dx => exact DecodeEncode.eoriL imm dx
  | bitrev dx => exact DecodeEncode.bitrev dx
  | byterev dx => exact DecodeEncode.byterev dx
  | ff1 dx => exact DecodeEncode.ff1 dx
  | btstImm bn ea => exact DecodeEncode.btstImm bn ea
  | bchgImm bn ea => exact DecodeEncode.bchgImm bn ea
  | bclrImm bn ea => exact DecodeEncode.bclrImm bn ea
  | bsetImm bn ea => exact DecodeEncode.bsetImm bn ea
  | btstReg dy ea => exact DecodeEncode.btstReg dy ea
  | bchgReg dy ea => exact DecodeEncode.bchgReg dy ea
  | bclrReg dy ea => exact DecodeEncode.bclrReg dy ea
  | bsetReg dy ea => exact DecodeEncode.bsetReg dy ea
  | cmpi sz imm dx => exact DecodeEncode.cmpi sz imm dx
  | moveB src dst => exact DecodeEncode.moveB src dst
  | moveW src dst => exact DecodeEncode.moveW src dst
  | moveL src dst => exact DecodeEncode.moveL src dst
  | moveaW src ax => exact DecodeEncode.moveaW src ax
  | moveaL src ax => exact DecodeEncode.moveaL src ax
  | negx dx => exact DecodeEncode.negx dx
  | moveFromSr dx => exact DecodeEncode.moveFromSr dx
  | lea src ax => exact DecodeEncode.lea src ax
  | clr sz ea => exact DecodeEncode.clr sz ea
  | moveFromCcr dx => exact DecodeEncode.moveFromCcr dx
  | neg dx => exact DecodeEncode.neg dx
  | moveToCcr src => exact DecodeEncode.moveToCcr src
  | not dx => exact DecodeEncode.not dx
  | moveToSr src => exact DecodeEncode.moveToSr src
  | swap dx => exact DecodeEncode.swap dx
  | pea src => exact DecodeEncode.pea src
  | extW dx => exact DecodeEncode.extW dx
  | extL dx => exact DecodeEncode.extL dx
  | movemStore mask ea => exact DecodeEncode.movemStore mask ea
  | extbL dx => exact DecodeEncode.extbL dx
  | tst sz src => exact DecodeEncode.tst sz src
  | tas ea => exact DecodeEncode.tas ea
  | halt => exact DecodeEncode.halt
  | pulse => exact DecodeEncode.pulse
  | illegal => exact DecodeEncode.illegal
  | sats dx => exact DecodeEncode.sats dx
  | movemLoad mask ea => exact DecodeEncode.movemLoad mask ea
  | trap v => exact DecodeEncode.trap v
  | link ay d16 => exact DecodeEncode.link ay d16
  | unlk ax => exact DecodeEncode.unlk ax
  | moveToUsp ay => exact DecodeEncode.moveToUsp ay
  | moveFromUsp ax => exact DecodeEncode.moveFromUsp ax
  | nop => exact DecodeEncode.nop
  | stop imm => exact DecodeEncode.stop imm
  | rte => exact DecodeEncode.rte
  | rts => exact DecodeEncode.rts
  | movec rn rc => exact DecodeEncode.movec rn rc
  | jsr ea => exact DecodeEncode.jsr ea
  | jmp ea => exact DecodeEncode.jmp ea
  | stldsr imm => exact DecodeEncode.stldsr imm
  | muluL src dx => exact DecodeEncode.muluL src dx
  | mulsL src dx => exact DecodeEncode.mulsL src dx
  | divuL src dx => exact DecodeEncode.divuL src dx
  | divsL src dx => exact DecodeEncode.divsL src dx
  | remuL src dw dx => exact DecodeEncode.remuL src dw dx
  | remsL src dw dx => exact DecodeEncode.remsL src dw dx
  | addq q ea => exact DecodeEncode.addq q ea
  | subq q ea => exact DecodeEncode.subq q ea
  | scc c dx => exact DecodeEncode.scc c dx
  | tpf => exact DecodeEncode.tpf
  | tpfW w => exact DecodeEncode.tpfW w
  | tpfL w1 w2 => exact DecodeEncode.tpfL w1 w2
  | bra d => exact DecodeEncode.bra d
  | bsr d => exact DecodeEncode.bsr d
  | bcc c d => exact DecodeEncode.bcc c d
  | moveq d8 dx => exact DecodeEncode.moveq d8 dx
  | mvs sz src dx => exact DecodeEncode.mvs sz src dx
  | mvz sz src dx => exact DecodeEncode.mvz sz src dx
  | orEaDn src dx => exact DecodeEncode.orEaDn src dx
  | orDnEa dy dst => exact DecodeEncode.orDnEa dy dst
  | divuW src dx => exact DecodeEncode.divuW src dx
  | divsW src dx => exact DecodeEncode.divsW src dx
  | subEaDn src dx => exact DecodeEncode.subEaDn src dx
  | subDnEa dy dst => exact DecodeEncode.subDnEa dy dst
  | subx dy dx => exact DecodeEncode.subx dy dx
  | suba src ax => exact DecodeEncode.suba src ax
  | cmp sz src dx => exact DecodeEncode.cmp sz src dx
  | cmpaW src ax => exact DecodeEncode.cmpaW src ax
  | cmpaL src ax => exact DecodeEncode.cmpaL src ax
  | eor dy dst => exact DecodeEncode.eor dy dst
  | andEaDn src dx => exact DecodeEncode.andEaDn src dx
  | andDnEa dy dst => exact DecodeEncode.andDnEa dy dst
  | muluW src dx => exact DecodeEncode.muluW src dx
  | mulsW src dx => exact DecodeEncode.mulsW src dx
  | addEaDn src dx => exact DecodeEncode.addEaDn src dx
  | addDnEa dy dst => exact DecodeEncode.addDnEa dy dst
  | addx dy dx => exact DecodeEncode.addx dy dx
  | adda src ax => exact DecodeEncode.adda src ax
  | mov3q q dst => exact DecodeEncode.mov3q q dst
  | asl cnt dx => exact DecodeEncode.asl cnt dx
  | asr cnt dx => exact DecodeEncode.asr cnt dx
  | lsl cnt dx => exact DecodeEncode.lsl cnt dx
  | lsr cnt dx => exact DecodeEncode.lsr cnt dx
  | cpushl cache ax => exact DecodeEncode.cpushl cache ax
  | intouch ay => exact DecodeEncode.intouch ay
  | wddata sz src => exact DecodeEncode.wddata sz src
  | wdebug src => exact DecodeEncode.wdebug src

/-- Settles O1, instruction by instruction: the row of the opcode map that the opword fits reads the encoder's words back. -/
theorem decodeEncodeAgree : Obligations.DecodeEncodeAgree := fun i rest h => decode_encode i h rest

/-- Settles O2: the decoder evaluated on each of the words. -/
theorem decodeSanity : Obligations.DecodeSanity :=
  ⟨rfl, rfl, rfl, rfl, rfl, rfl⟩

end Sys2Proof
end

section
/-! PROOFS. What an instruction may come to, for any property that its parts keep: `exec_outcome` walks through the instruction set
once, and the invariant of the machine, the absence of the model's fault and the confinement of user mode are read off from it. -/

namespace Sys2Proof.Machine

-- One theorem after another: elaborating them side by side takes a thread each, and no less time.
set_option Elab.async false

/-! A property that every part of an instruction keeps. -/

/-- The property survives every change of the state that an instruction makes; the last five changes are made in supervisor mode
only. -/
structure Stable (P : State → Prop) : Prop where
  setD : ∀ s n v, P s → P (s.setD n v)
  setA : ∀ s n v, P s → P (s.setA n v)
  setFlags : ∀ s f, P s → P (s.setFlags f)
  loadCcr : ∀ s v, P s → P (s.loadCcr v)
  store : ∀ s a sz v, P s → P (s.store a sz v)
  pc : ∀ s v, P s → P { s with pc := v }
  synced : ∀ s, P s → P s.synced
  writeFaults : ∀ s fs, P s → P { s with writeFaults := fs }
  loadSr : ∀ s v, s.supervisor = true → P s → P (s.loadSr v)
  usp : ∀ s v, s.supervisor = true → P s → P { s with usp := v }
  run : ∀ s r, s.supervisor = true → P s → P { s with run := r }
  control : ∀ s rc v t, s.supervisor = true → P s → writeControl rc v s = some t → P t
  stopTrace : ∀ s v p, s.supervisor = true → P s → P (enter 9#8 p 0#4 none { s.loadSr v with pc := p })

/-- Every state that a part of an instruction comes to has the property, and it comes to no fault of the model. -/
def Res.Sound {α : Type} (P : State → Prop) : Res α → Prop
  | .ok _ t => P t
  | .raise _ t => P t
  | .refuse _ => True
  | .fault _ => False

section
variable {P : State → Prop}

theorem Res.Sound.bind {α β : Type} {r : Res α} {k : α → State → Res β} (h : r.Sound P)
    (hk : ∀ x t, r = .ok x t → P t → (k x t).Sound P) : (r.bind k).Sound P := by
  cases r with
  | ok x t => exact hk x t rfl h
  | raise e t => exact h
  | refuse r => trivial
  | fault f => exact h

/-- Where the first part changes nothing the second runs in the same state. -/
theorem fetchExt_bind_sound {off n : Nat} {s : State} {k : Unit → State → Res Unit} (hs : P s) (hk : (k () s).Sound P) :
    ((fetchExt off n s).bind k).Sound P := by
  rcases fetchExt_cases off n s with h | h | h <;> rw [h]
  · exact hk
  · exact hs
  · trivial

variable (hP : Stable P)
include hP

theorem Stable.setSp {s : State} (v : Long) (h : P s) : P (s.setSp v) :=
  State.setA_seven s 7 v (by decide) ▸ hP.setA s 7 v h

theorem Stable.advanced {s : State} (n : Nat) (h : P s) : P (s.advanced n) := hP.pc s _ h

theorem Stable.eaUpdate {s : State} (sz : Size) (ea : Ea) (h : P s) : P (eaUpdate sz ea s) := by
  cases ea with
  | postinc n | predec n => exact hP.setA s n _ h
  | dreg | areg | ind | disp | index | absW | absL | pcDisp | pcIndex | imm => exact h

theorem Stable.written {s : State} (sz : Size) (ea : Ea) (v : Long) (h : P s) : P (written sz ea v s) := by
  cases ea with
  | dreg n => exact hP.setD s n _ h
  | areg n => exact hP.setA s n _ h
  | ind | postinc | predec | disp | index | absW | absL | pcDisp | pcIndex | imm =>
    exact hP.store _ _ _ _ (hP.eaUpdate sz _ h)

theorem Stable.pushed {s : State} (v : Long) (h : P s) : P (pushed v s) := hP.store _ _ _ _ (hP.setSp _ h)

/-! The shared operations. -/

omit hP in
theorem loadMem_sound {a : Long} {sz : Size} {s : State} (h : P s) : (loadMem a sz s).Sound P := by
  rcases loadMem_cases a sz s with g | g <;> rw [g] <;> exact h

theorem storeMem_sound {a : Long} {sz : Size} {v : Long} {s : State} (h : P s) : (storeMem a sz v s).Sound P := by
  rcases storeMem_cases a sz v s with g | ⟨fs, g⟩ | ⟨fs, g⟩ <;> rw [g]
  · exact hP.store s a sz v h
  · exact h
  · exact hP.writeFaults s _ h

theorem push_sound {v : Long} {s : State} (h : P s) : (push v s).Sound P := by
  rcases push_cases v s with g | ⟨fs, g⟩ | ⟨fs, g⟩ <;> rw [g]
  · exact hP.pushed v h
  · exact hP.setSp _ h
  · exact hP.writeFaults _ _ (hP.setSp _ h)

/-- The operand is a memory operand. -/
theorem eaAddr_sound {sz : Size} {off : Nat} {ea : Ea} {s : State} (hm : isMemory ea = true) (h : P s) :
    (eaAddr sz off ea s).Sound P := by
  rcases eaAddr_cases sz off ea s with g | g | ⟨g, -⟩ | g | ⟨-, g⟩
  · rw [g]
    exact hP.eaUpdate sz ea h
  · rw [g]
    exact h
  · rw [g]
    exact h
  · rw [g]
    trivial
  · rw [hm] at g
    cases g

/-- The operand is no address register of byte size. -/
theorem readEa_sound {sz : Size} {off : Nat} {ea : Ea} {s : State} (hr : sz = .byte → ∀ n, ea ≠ .areg n) (h : P s) :
    (readEa sz off ea s).Sound P := by
  rcases readEa_cases sz off ea s with g | ⟨e, t, g, rfl | rfl⟩ | g | ⟨-, hz, n, hn⟩
  · rw [g]
    exact hP.eaUpdate sz ea h
  · rw [g]
    exact h
  · rw [g]
    exact hP.eaUpdate sz ea h
  · rw [g]
    trivial
  · exact absurd hn (hr hz n)

/-- The operand is no immediate. -/
theorem writeEa_sound {sz : Size} {off : Nat} {ea : Ea} {v : Long} {s : State} (hw : ∀ w, ea ≠ .imm w) (h : P s) :
    (writeEa sz off ea v s).Sound P := by
  rcases writeEa_cases sz off ea v s with g | ⟨fs, g, -⟩ | ⟨e, t, g, rfl | rfl⟩ | g | ⟨-, w, hi⟩
  · rw [g]
    exact hP.written sz ea v h
  · rw [g]
    exact hP.writeFaults _ _ (hP.eaUpdate sz ea h)
  · rw [g]
    exact h
  · rw [g]
    exact hP.eaUpdate sz ea h
  · rw [g]
    trivial
  · exact absurd hi (hw w)

/-- The operand is no address register and no immediate. -/
theorem modifyEa_sound {sz : Size} {off : Nat} {ea : Ea} {f : Long → Flags → Long × Flags} {s : State}
    (hd : ea.dataAlterable = true) (h : P s) : (modifyEa sz off ea f s).Sound P := by
  rcases modifyEa_cases sz off ea f s with ⟨-, g⟩ | ⟨fs, g, -⟩ | ⟨e, t, g, rfl | rfl⟩ | g | ⟨-, ⟨n, rfl⟩ | ⟨w, rfl⟩⟩
  · rw [g]
    exact hP.setFlags _ _ (hP.written sz ea _ h)
  · rw [g]
    exact hP.setFlags _ _ (hP.writeFaults _ _ (hP.eaUpdate sz ea h))
  · rw [g]
    exact h
  · rw [g]
    exact hP.eaUpdate sz ea h
  · rw [g]
    trivial
  · cases hd
  · cases hd

theorem modifyD_sound {n : Fin 8} {f : Long → Flags → Long × Flags} {s : State} (h : P s) : (modifyD n f s).Sound P :=
  hP.setFlags _ _ (hP.setD _ _ _ h)

theorem sourceToD_sound {sz : Size} {off : Nat} {src : Ea} {n : Fin 8} {f : Long → Long → Flags → Long × Flags}
    {s : State} (hr : sz = .byte → ∀ n, src ≠ .areg n) (h : P s) : (sourceToD sz off src n f s).Sound P :=
  (readEa_sound hP hr h).bind fun _ _ _ ht => modifyD_sound hP ht

theorem advance_sound {n : Nat} {s : State} (h : P s) : (advance n s).Sound P := hP.advanced n h

theorem jumpTo_sound {a : Long} {s : State} (h : P s) : (jumpTo a s).Sound P := hP.pc s a h

/-- A part of an instruction, and then the next instruction's address. -/
theorem Res.Sound.thenAdvance {r : Res Unit} {n : Nat} (h : r.Sound P) : (r.bind fun _ s => advance n s).Sound P :=
  h.bind fun _ _ _ ht => advance_sound hP ht

theorem storeRegs_sound (rs : List (Fin 16)) (a : Long) {s : State} (h : P s) : (storeRegs rs a s).Sound P := by
  induction rs generalizing a s with
  | nil => exact h
  | cons r rs ih => exact (storeMem_sound hP h).bind fun _ _ _ ht => ih _ ht

theorem setR_stable {s : State} (n : Fin 16) (v : Long) (h : P s) : P (s.setR n v) := by
  unfold State.setR
  split
  · exact hP.setD _ _ _ h
  · exact hP.setA _ _ _ h

theorem loadRegs_sound (rs : List (Fin 16)) (a : Long) {s : State} (h : P s) : (loadRegs rs a s).Sound P := by
  induction rs generalizing a s with
  | nil => exact h
  | cons r rs ih => exact (loadMem_sound h).bind fun _ _ _ ht => ih _ (setR_stable hP r _ ht)

theorem divEnd_sound {o : Bool} {dw : Fin 8} {r : Long} {f : Flags} {n : Nat} {s : State} (h : P s) :
    (divEnd o dw r f n s).Sound P := by
  unfold divEnd
  split
  · exact advance_sound hP (hP.setFlags _ _ h)
  · exact advance_sound hP (hP.setFlags _ _ (hP.setD _ _ _ h))

/-! The outcome of an instruction. -/

omit hP in
/-- The outcome is that of parts that keep the property, started from a state that has it. -/
def Meets (P : State → Prop) (o : Host.Outcome State Fault Refusal) : Prop :=
  ∃ s0 r, o = finish s0 r ∧ P s0 ∧ r.Sound P

omit hP in
theorem Res.Sound.meets {s : State} {r : Res Unit} (h : P s) (hr : r.Sound P) : Meets P (finish s r) := ⟨s, r, rfl, h, hr⟩

omit hP in
theorem privileged_sound {s : State} {k : State → Res Unit} (h : P s) (hk : s.supervisor = true → (k s).Sound P) :
    (privileged s k).Sound P := by
  unfold privileged
  split
  · exact hk ‹_›
  · exact h

theorem synchronizing_meets {n : Nat} {s : State} {k : State → Res Unit} (h : P s)
    (hk : ∀ t, t.supervisor = true → P t → (k t).Sound P) : Meets P (synchronizing n s k) :=
  (privileged_sound h fun hs =>
    fetchExt_bind_sound h (hk s.synced (State.supervisor_eq s _ rfl ▸ hs) (hP.synced s h))).meets (hP.synced s h)

omit hP in
/-- What an outcome that meets the property can be: a next state that has it, an exception entered from a state that has it, or a
stop. -/
theorem Meets.cases {o : Host.Outcome State Fault Refusal} (h : Meets P o) :
    (∃ t, o = .next t ∧ P t) ∨ (∃ vec spc fs u, o = .next (enter vec spc fs none u) ∧ P u) ∨ ∃ r, o = .refused r := by
  obtain ⟨s0, r, rfl, h0, hr⟩ := h
  cases r with
  | ok x t => exact .inl ⟨t, rfl, hr⟩
  | raise e t =>
    refine .inr (.inl ⟨_, _, _, _, rfl, ?_⟩)
    cases e with
    | accessError fs => exact hr
    | addressError | illegalInstruction | divideByZero | privilegeViolation | lineA | lineF | formatError | trap => exact h0
  | refuse r => exact .inr (.inr ⟨r, rfl⟩)
  | fault f => cases hr

end

/-! What the classes of modes exclude. -/

/-- The operand is no address register of byte size. -/
def Readable (sz : Size) (ea : Ea) : Prop := sz = .byte → ∀ n, ea ≠ .areg n

theorem readable_word (ea : Ea) : Readable .word ea := by rintro ⟨⟩
theorem readable_long (ea : Ea) : Readable .long ea := by rintro ⟨⟩
theorem readable_of_any {sz : Size} {ea : Ea} (h : ea.any sz = true) : Readable sz ea := by
  rintro rfl n rfl
  cases h
theorem readable_of_short {sz : Size} {ea : Ea} (h : ea.short = true) : Readable sz ea := by
  rintro - n rfl
  cases h
theorem readable_of_bitTest {sz : Size} {ea : Ea} (h : ea.bitTest = true) : Readable sz ea := by
  rintro - n rfl
  cases h
theorem readable_of_dregOrImm {sz : Size} {ea : Ea} (h : ea.dregOrImm sz = true) : Readable sz ea := by
  rintro - n rfl
  cases h
theorem readable_of_memoryAlterable {sz : Size} {ea : Ea} (h : ea.memoryAlterable = true) : Readable sz ea := by
  rintro - n rfl
  cases h

theorem isMemory_of_control {ea : Ea} (h : ea.control = true) : isMemory ea = true := by
  cases ea <;> first | rfl | cases h
theorem isMemory_of_block {ea : Ea} (h : ea.block = true) : isMemory ea = true := by
  cases ea <;> first | rfl | cases h
theorem isMemory_of_memoryAlterable {ea : Ea} (h : ea.memoryAlterable = true) : isMemory ea = true := by
  cases ea <;> first | rfl | cases h

theorem dataAlterable_of_memoryAlterable {ea : Ea} (h : ea.memoryAlterable = true) : ea.dataAlterable = true := by
  cases ea <;> first | rfl | cases h
theorem dataAlterable_of_short {ea : Ea} (h : ea.short = true) : ea.dataAlterable = true := by
  cases ea <;> first | rfl | cases h
theorem ne_imm_of_alterable {ea : Ea} (h : ea.alterable = true) (w : Long) : ea ≠ .imm w := by
  rintro rfl
  cases h
theorem ne_imm_of_dataAlterable {ea : Ea} (h : ea.dataAlterable = true) (w : Long) : ea ≠ .imm w := by
  rintro rfl
  cases h

/-! Families of instructions. -/

section
variable {P : State → Prop} (hP : Stable P)
include hP

theorem modifyD_meets {n : Fin 8} {f : Long → Flags → Long × Flags} {k : Nat} {s : State} (h : P s) :
    Meets P (finish s ((modifyD n f s).bind fun _ s => advance k s)) :=
  ((modifyD_sound hP h).thenAdvance hP).meets h

theorem immToD_meets {v : Long} {n : Fin 8} {f : Long → Long → Flags → Long × Flags} {s : State} (h : P s) :
    Meets P (finish s (immToD v n f s)) :=
  (fetchExt_bind_sound h ((modifyD_sound hP h).thenAdvance hP)).meets h

theorem sourceToD_meets {sz : Size} {src : Ea} {n : Fin 8} {f : Long → Long → Flags → Long × Flags} {k : Nat} {s : State}
    (hr : Readable sz src) (h : P s) :
    Meets P (finish s ((sourceToD sz 1 src n f s).bind fun _ s => advance k s)) :=
  ((sourceToD_sound hP hr h).thenAdvance hP).meets h

theorem longSourceToD_meets {src : Ea} {n : Fin 8} {f : Long → Long → Flags → Long × Flags} {s : State} (h : P s) :
    Meets P (finish s (longSourceToD src n f s)) :=
  (fetchExt_bind_sound h ((sourceToD_sound hP (readable_long src) h).thenAdvance hP)).meets h

theorem toEa_meets {v : Long} {dst : Ea} {f : Long → Long → Flags → Long × Flags} {s : State}
    (hd : dst.dataAlterable = true) (h : P s) : Meets P (finish s (toEa v dst f s)) :=
  ((modifyEa_sound hP hd h).thenAdvance hP).meets h

theorem bitModify_sound {c : Long → Nat → Long} {off bn : Nat} {ea : Ea} {s : State} (hd : ea.dataAlterable = true)
    (h : P s) : (bitModify c off bn ea s).Sound P :=
  (modifyEa_sound hP hd h).thenAdvance hP

theorem bitTest_sound {off bn : Nat} {ea : Ea} {s : State} (hr : Readable (bitSize ea) ea) (h : P s) :
    (bitTest off bn ea s).Sound P :=
  (readEa_sound hP hr h).bind fun _ _ _ ht => advance_sound hP (hP.setFlags _ _ ht)

/-- A source operand, then a change of the registers that keeps the property. -/
theorem readEa_meets {sz : Size} {src : Ea} {k : Nat} {g : Long → State → State} {s : State} (hr : Readable sz src)
    (h : P s) (hg : ∀ v t, P t → P (g v t)) :
    Meets P (finish s ((readEa sz 1 src s).bind fun v s => advance k (g v s))) :=
  ((readEa_sound hP hr h).bind fun v t _ ht => advance_sound hP (hg v t ht)).meets h

theorem move_meets {sz : Size} {src dst : Ea} {s : State} (hw : movePair sz src dst = true) (h : P s) :
    Meets P (finish s (moveOp sz src dst s)) := by
  obtain ⟨hs, hd⟩ := movePair_iff hw
  refine ((readEa_sound hP (readable_of_any hs) h).bind fun v t _ ht => ?_).meets h
  exact (writeEa_sound hP (ne_imm_of_dataAlterable hd) ht).bind fun _ _ _ hu => advance_sound hP (hP.setFlags _ _ hu)

/-- A write of an operand, then the flags. -/
theorem writeEa_meets {sz : Size} {dst : Ea} {v : Long} {k : Nat} {g : Flags → Flags} {s : State} (hd : ∀ w, dst ≠ .imm w)
    (h : P s) :
    Meets P (finish s ((writeEa sz 1 dst v s).bind fun _ s => advance k (s.setFlags (g s.flags)))) :=
  ((writeEa_sound hP hd h).bind fun _ _ _ ht => advance_sound hP (hP.setFlags _ _ ht)).meets h

theorem divideWord_meets {src : Ea} {k : Long → State → Res Unit} {s : State} (h : P s)
    (hk : ∀ v t, P t → (k v t).Sound P) :
    Meets P (finish s ((readEa .word 1 src s).bind fun v s =>
      if Size.word.u v = 0 then .raise .divideByZero s else k v s)) := by
  refine ((readEa_sound hP (readable_word src) h).bind fun v t _ ht => ?_).meets h
  split
  · exact ht
  · exact hk v t ht

theorem divideLong_sound {src : Ea} {k : Long → State → Res Unit} {s : State} (h : P s)
    (hk : ∀ v t, P t → (k v t).Sound P) :
    ((fetchExt 1 1 s).bind fun _ s => (readEa .long 2 src s).bind fun v s =>
      if Size.long.u v = 0 then .raise .divideByZero s else k v s).Sound P := by
  refine fetchExt_bind_sound h ((readEa_sound hP (readable_long src) h).bind fun v t _ ht => ?_)
  split
  · exact ht
  · exact hk v t ht

theorem divuLong_meets {src : Ea} {dx dw : Fin 8} {k : Nat → Nat → Nat} {s : State} (h : P s) :
    Meets P (finish s (divuLongOp src dx dw k s)) :=
  (divideLong_sound hP h fun _ _ ht => divEnd_sound hP ht).meets h

theorem divsLong_meets {src : Ea} {dx dw : Fin 8} {k : Int → Int → Int} {s : State} (h : P s) :
    Meets P (finish s (divsLongOp src dx dw k s)) :=
  (divideLong_sound hP h fun _ _ ht => divEnd_sound hP ht).meets h

theorem movem_meets {ea : Ea} {k : Long → State → Res Unit} {n : Nat} {s : State} (hb : ea.block = true) (h : P s)
    (hk : ∀ a t, P t → (k a t).Sound P) :
    Meets P (finish s ((fetchExt 1 1 s).bind fun _ s => (eaAddr .long 2 ea s).bind fun a s =>
      (k a s).bind fun _ s => advance n s)) :=
  (fetchExt_bind_sound h ((eaAddr_sound hP (isMemory_of_block hb) h).bind fun a t _ ht =>
    (hk a t ht).thenAdvance hP)).meets h

theorem control_meets {ea : Ea} {k : Long → State → Res Unit} {s : State} (hc : ea.control = true) (h : P s)
    (hk : ∀ a t, P t → (k a t).Sound P) : Meets P (finish s ((eaAddr .long 1 ea s).bind k)) :=
  ((eaAddr_sound hP (isMemory_of_control hc) h).bind fun a t _ ht => hk a t ht).meets h

theorem tas_meets {ea : Ea} {s : State} (hm : ea.memoryAlterable = true) (h : P s) : Meets P (execTas ea s) := by
  refine ((eaAddr_sound hP (isMemory_of_memoryAlterable hm) h).bind fun a t _ ht => ?_).meets h
  refine (loadMem_sound ht).bind fun v u _ hu => ?_
  exact (storeMem_sound hP hu).bind fun _ _ _ hw => advance_sound hP (hP.setFlags _ _ hw)

theorem link_meets {ay : Fin 8} {d : Word} {s : State} (h : P s) : Meets P (execLink ay d s) := by
  refine (fetchExt_bind_sound h ?_).meets h
  split
  · trivial
  · exact (push_sound hP h).bind fun _ t _ ht => advance_sound hP (hP.setSp _ (hP.setA t ay _ ht))

theorem unlk_meets {ax : Fin 8} {s : State} (h : P s) : Meets P (execUnlk ax s) := by
  refine Res.Sound.meets h ?_
  split
  · trivial
  · exact (loadMem_sound (hP.setSp _ h)).bind fun _ t _ ht => advance_sound hP (hP.setSp _ (hP.setA t ax _ ht))

omit hP in
theorem withUsp_meets {k : State → Res Unit} {s : State} (h : P s) (hk : s.supervisor = true → (k s).Sound P) :
    Meets P (finish s (withUsp s k)) := by
  refine Res.Sound.meets h ?_
  unfold withUsp
  split
  · refine privileged_sound h fun hs => ?_
    split
    · trivial
    · exact hk hs
  · exact h

theorem shiftOp_meets {step : ShiftStep} {cnt : ShiftCount} {dx : Fin 8} {s : State} (h : P s) :
    Meets P (finish s (shiftOp step cnt dx s)) := by
  unfold shiftOp
  exact modifyD_meets hP h

theorem stldsr_meets {imm : Word} {s : State} (h : P s) : Meets P (execStldsr imm s) := by
  refine (privileged_sound h fun hs => fetchExt_bind_sound h ?_).meets h
  split
  · exact h
  · refine (push_sound hP h).bind fun _ t ht hPt => advance_sound hP (hP.loadSr t imm ?_ hPt)
    rcases push_cases (s.sr.setWidth 32) s with g | ⟨fs, g⟩ | ⟨fs, g⟩ <;> rw [g] at ht <;> cases ht
    · simpa [pushed] using hs
    · exact (State.supervisor_eq _ _ (State.setSp_sr s _)).trans hs

theorem moveToSr_meets {src : Ea} {s : State} (h : P s) :
    Meets P (execMoveToSr src s) := by
  refine synchronizing_meets hP h fun t hs ht => ?_
  refine (readEa_sound hP (readable_word src) ht).bind fun v u hu hPu => advance_sound hP (hP.loadSr u _ ?_ hPu)
  rcases readEa_cases .word 1 src t with g | ⟨e, w, g, -⟩ | g | ⟨g, -⟩ <;> rw [g] at hu <;> cases hu
  simpa using hs

theorem returnFromException_sound {s : State} (hs : s.supervisor = true) (h : P s) : (returnFromException s).Sound P := by
  rcases returnFromException_cases s with g | ⟨-, g⟩ | ⟨-, g⟩ <;> rw [g]
  · exact h
  · exact h
  · exact hP.pc _ _ (hP.loadSr _ _ (by simpa using hs) (hP.setSp _ h))

theorem stop_meets {imm : Word} {s : State} (h : P s) : Meets P (execStop imm s) := by
  refine synchronizing_meets hP h fun t hs ht => ?_
  split
  · exact ht
  · dsimp only
    split
    · exact hP.stopTrace t imm _ hs ht
    · have hrun : P { t with run := .stopped } := hP.run t _ hs ht
      exact hP.pc _ (t.pc + 4#32) (hP.loadSr _ imm (State.supervisor_eq t _ rfl ▸ hs) hrun)

theorem halt_meets {s : State} (h : P s) : Meets P (execHalt s) := by
  refine synchronizing_meets hP h fun t hs ht => ?_
  have hpc : P { t with pc := t.pc + 2#32 } := hP.pc t _ ht
  exact hP.run _ _ (State.supervisor_eq t _ rfl ▸ hs) hpc

theorem movec_meets {rn : Fin 16} {rc : BitVec 12} {s : State} (h : P s) : Meets P (execMovec rn rc s) := by
  refine synchronizing_meets hP h fun t hs ht => ?_
  split
  · unfold unassigned
    split
    · exact ht
    · trivial
  · rename_i u hu
    exact advance_sound hP (hP.control t rc _ u hs ht hu)

/-- Every well-formed instruction, from a state with the property. -/
theorem exec_meets (i : Instr) (s : State) (hw : i.wf = true) (h : P s) : Meets P (exec i s) := by
  cases i with
  | oriL | andiL | subiL | addiL | eoriL => exact immToD_meets hP h
  | bitrev | byterev | ff1 | negx | neg | not | swap | extW | extL | extbL | sats | moveq | addx | subx =>
    unfold exec
    exact modifyD_meets hP h
  | asl | asr | lsl | lsr => exact shiftOp_meets hP h
  | btstImm b ea => exact (fetchExt_bind_sound h (bitTest_sound hP (readable_of_short hw) h)).meets h
  | bchgImm b ea | bclrImm b ea | bsetImm b ea =>
    exact (fetchExt_bind_sound h (bitModify_sound hP (dataAlterable_of_short hw) h)).meets h
  | btstReg dy ea => exact (bitTest_sound hP (readable_of_bitTest hw) h).meets h
  | bchgReg dy ea | bclrReg dy ea | bsetReg dy ea => exact (bitModify_sound hP hw h).meets h
  | cmpi sz v dx => exact (fetchExt_bind_sound h (advance_sound hP (hP.setFlags _ _ h))).meets h
  | moveB | moveW | moveL => exact move_meets hP hw h
  | moveaW => exact readEa_meets hP (readable_word _) h fun v t ht => hP.setA _ _ _ ht
  | moveaL | adda | suba => exact readEa_meets hP (readable_long _) h fun v t ht => hP.setA _ _ _ ht
  | cmp | tst => exact readEa_meets hP (readable_of_any hw) h fun v t ht => hP.setFlags _ _ ht
  | cmpaW => exact readEa_meets hP (readable_word _) h fun v t ht => hP.setFlags _ _ ht
  | cmpaL => exact readEa_meets hP (readable_long _) h fun v t ht => hP.setFlags _ _ ht
  | wddata => exact readEa_meets hP (readable_of_memoryAlterable hw) h fun v t ht => ht
  | moveToCcr => exact readEa_meets hP (readable_of_dregOrImm hw) h fun v t ht => hP.loadCcr _ _ ht
  | moveFromCcr | scc => exact (advance_sound hP (hP.setD _ _ _ h)).meets h
  | moveFromSr =>
    refine (privileged_sound h fun _ => ?_).meets h
    exact advance_sound hP (hP.setD _ _ _ h)
  | lea => exact control_meets hP hw h fun a t ht => advance_sound hP (hP.setA _ _ _ ht)
  | pea => exact control_meets hP hw h fun a t ht => (push_sound hP ht).thenAdvance hP
  | jmp => exact control_meets hP hw h fun a t ht => jumpTo_sound hP ht
  | jsr => exact control_meets hP hw h fun a t ht => (push_sound hP ht).bind fun _ _ _ hu => jumpTo_sound hP hu
  | clr => exact writeEa_meets hP (ne_imm_of_dataAlterable hw) h
  | mov3q => exact writeEa_meets hP (ne_imm_of_alterable hw) h
  | moveToSr => exact moveToSr_meets hP h
  | movemStore => exact movem_meets hP hw h fun a t ht => storeRegs_sound hP _ a ht
  | movemLoad => exact movem_meets hP hw h fun a t ht => loadRegs_sound hP _ a ht
  | tas => exact tas_meets hP hw h
  | halt => exact halt_meets hP h
  | stop => exact stop_meets hP h
  | pulse | tpf => exact (advance_sound hP h).meets h
  | nop => exact (advance_sound hP (hP.synced s h)).meets h
  | illegal | trap => exact Res.Sound.meets (r := .raise _ s) h h
  | link => exact link_meets hP h
  | unlk => exact unlk_meets hP h
  | moveToUsp => exact withUsp_meets h fun hs => advance_sound hP (hP.usp s _ hs h)
  | moveFromUsp => exact withUsp_meets h fun _ => advance_sound hP (hP.setA s _ _ h)
  | rte => exact synchronizing_meets hP h fun t hs ht => returnFromException_sound hP hs ht
  | rts => exact ((loadMem_sound h).bind fun _ _ _ ht => jumpTo_sound hP (hP.setSp _ ht)).meets h
  | movec => exact movec_meets hP h
  | stldsr => exact stldsr_meets hP h
  | muluL | mulsL => exact longSourceToD_meets hP h
  | divuL | remuL => exact divuLong_meets hP h
  | divsL | remsL => exact divsLong_meets hP h
  | divuW | divsW => exact divideWord_meets hP h fun _ _ ht => divEnd_sound hP ht
  | addq q ea | subq q ea =>
    cases ea with
    | areg n => exact (advance_sound hP (hP.setA s n _ h)).meets h
    | dreg | ind | postinc | predec | disp | index | absW | absL =>
      unfold exec
      refine toEa_meets hP ?_ h
      exact hw
    | pcDisp | pcIndex | imm => cases hw
  | tpfW | tpfL => exact (fetchExt_bind_sound h (advance_sound hP h)).meets h
  | bra =>
    refine (fetchExt_bind_sound h ?_).meets h
    exact jumpTo_sound hP h
  | bsr => exact (fetchExt_bind_sound h ((push_sound hP h).bind fun _ _ _ ht => jumpTo_sound hP ht)).meets h
  | bcc c d =>
    refine (fetchExt_bind_sound h ?_).meets h
    split
    · exact jumpTo_sound hP h
    · exact advance_sound hP h
  | mvs | mvz => exact sourceToD_meets hP (readable_of_any ((Bool.and_eq_true _ _).mp hw).2) h
  | orEaDn | subEaDn | andEaDn | addEaDn => exact sourceToD_meets hP (readable_long _) h
  | muluW | mulsW => exact sourceToD_meets hP (readable_word _) h
  | orDnEa | subDnEa | andDnEa | addDnEa => exact toEa_meets hP (dataAlterable_of_memoryAlterable hw) h
  | eor => exact toEa_meets hP hw h
  | cpushl | intouch => exact synchronizing_meets hP h fun t _ ht => advance_sound hP ht
  | wdebug => exact synchronizing_meets hP (k := fun _ => .refuse .debugModule) h fun _ _ _ => trivial

/-- What a well-formed instruction can come to from a state with the property. -/
theorem exec_outcome {i : Instr} {s : State} (hw : i.wf = true) (h : P s) :
    (∃ t, exec i s = .next t ∧ P t) ∨ (∃ vec spc fs u, exec i s = .next (enter vec spc fs none u) ∧ P u) ∨
      ∃ r, exec i s = .refused r :=
  (exec_meets hP i s hw h).cases

end

/-! What a step of a running core can come to. -/

/-- The state at a boundary or in front of an instruction: it differs in what the environment presents, in the pending write faults
and in the marks of exception processing. -/
def State.AtBoundary (s u : State) : Prop :=
  u = { s with
    irq := u.irq, irq7 := u.irq7, deliver := u.deliver, writeFaults := u.writeFaults, inhibit := u.inhibit
    firstFetch := u.firstFetch }

theorem recognized_wf {s : State} {i : Instr} (h : recognized s = some i) : i.wf = true := by
  unfold recognized at h
  split at h
  · cases h
  · rename_i j rest hd
    split at h
    · cases h
      exact decode_wf _ _ _ hd
    · cases h

theorem unassignedEffect_ne_instr (cfg : Config) (w : Nat) (i : Instr) : unassignedEffect cfg w ≠ .instr i := by
  unfold unassignedEffect
  repeat' split
  all_goals rintro ⟨⟩

/-- What is fetched is well-formed. -/
theorem fetchInstr_wf {s : State} {i : Instr} (h : fetchInstr s = .instr i) : i.wf = true := by
  have hfault (e : Exc) : opwordFault s e ≠ .instr i := by
    unfold opwordFault
    split <;> rintro ⟨⟩
  have hrec (h : recognize s = .instr i) : i.wf = true := by
    unfold recognize at h
    split at h
    · cases h
      exact recognized_wf ‹_›
    · exact absurd h (unassignedEffect_ne_instr _ _ _)
  unfold fetchInstr fetchSecond at h
  split at h
  · exact absurd h (hfault _)
  split at h
  · exact absurd h (hfault _)
  split at h
  · cases h
  split at h
  · split at h
    · cases h
    split at h
    · cases h
    · exact hrec h
  · exact hrec h

/-- The outcome of a step that runs an instruction: the instruction's, and trace after it (R388). -/
def traced (t : Bool) (o : Host.Outcome State Fault Refusal) : Host.Outcome State Fault Refusal :=
  match o with
  | .next s => .next (traceAfter t s)
  | .fault f => .fault f
  | .refused r => .refused r

/-- The shapes of a step's outcome: only the environment's part of the state changes; an exception is taken; the core halts on a
fault in exception processing; the model stops; a well-formed instruction runs. -/
inductive StepShape (s : State) : Host.Outcome State Fault Refusal → Prop
  | boundary (t : State) (h : s.AtBoundary t) : StepShape s (.next t)
  | entry (vec : Byte) (spc : Long) (fs : BitVec 4) (level : Option (BitVec 3)) (u : State) (h : s.AtBoundary u) :
      StepShape s (.next (enter vec spc fs level u))
  | dead (x y : Byte) (u : State) (h : s.AtBoundary u) : StepShape s (.next (u.faultOnFault x y))
  | stops (r : Refusal) : StepShape s (.refused r)
  | instr (i : Instr) (u : State) (hw : i.wf = true) (h : s.AtBoundary u) : StepShape s (traced s.trace (exec i u))

/-- The instruction at the program counter. -/
theorem runInstruction_shape (s : State) : StepShape s (runInstruction s) := by
  unfold runInstruction
  dsimp only
  split
  · exact .dead _ _ { s with inhibit := false } rfl
  · exact .stops _
  · rename_i e he
    have hbase : takeException { s with inhibit := false, firstFetch := none } e
        { s with inhibit := false, firstFetch := none } =
        enter e.vector (e.stackedPc s.pc) (e.faultStatus s.cfg) none { s with inhibit := false, firstFetch := none } := by
      cases e <;> rfl
    rw [hbase]
    exact .entry _ _ _ _ _ rfl
  · exact .instr _ { s with inhibit := false, firstFetch := none } (fetchInstr_wf ‹_›) rfl

/-- The boundary comes before the instruction, and changes neither T nor what an instruction's shape speaks of. -/
theorem StepShape.ofBoundary {s v : State} {o : Host.Outcome State Fault Refusal} (h : StepShape v o)
    (hv : s.AtBoundary v) : StepShape s o := by
  have trans {u : State} (hu : v.AtBoundary u) : s.AtBoundary u := by
    unfold State.AtBoundary at *
    rw [hu, hv]
  have ht : v.trace = s.trace := by
    unfold State.AtBoundary at hv
    rw [hv]
    rfl
  cases h with
  | boundary t h => exact .boundary t (trans h)
  | entry vec spc fs level u h => exact .entry vec spc fs level u (trans h)
  | dead x y u h => exact .dead x y u (trans h)
  | stops r => exact .stops r
  | instr i u hw h => exact ht ▸ .instr i u hw (trans h)

theorem runBoundary_shape (s : State) : StepShape s (runBoundary s) := by
  have hrun : StepShape s (runInstruction s.sampled) := (runInstruction_shape _).ofBoundary rfl
  unfold runBoundary
  split
  · exact (runInstruction_shape _).ofBoundary rfl
  split
  · split
    · exact .entry _ _ _ _ s.sampled rfl
    · exact hrun
  · exact hrun

theorem step_shape (s : State) : StepShape s (step s) := by
  unfold step cycle
  split
  · exact .boundary s rfl
  · unfold stoppedStep
    split
    · split
      · exact .entry _ _ _ _ s.sampled rfl
      · exact .boundary _ rfl
    · exact .boundary _ rfl
  · unfold runStep
    split
    · exact runBoundary_shape s
    · split
      · exact .entry _ _ _ _ _ rfl
      · exact (runBoundary_shape _).ofBoundary rfl

/-! Properties that every step keeps. -/

/-- The property survives also what happens around an instruction. -/
structure StableStep (P : State → Prop) : Prop extends Stable P where
  enter : ∀ vec spc fs level s, P s → P (enter vec spc fs level s)
  faultOnFault : ∀ s x y, P s → P (s.faultOnFault x y)
  atBoundary : ∀ s u, s.AtBoundary u → P s → P u

/-- A step comes to a next state that has the property, or the model stops. -/
theorem StableStep.step {P : State → Prop} (hP : StableStep P) (s : State) (h : P s) :
    (∃ t, step s = .next t ∧ P t) ∨ ∃ r, step s = .refused r := by
  have hshape := step_shape s
  generalize Machine.step s = o at hshape
  cases hshape with
  | boundary t ht => exact .inl ⟨t, rfl, hP.atBoundary s t ht h⟩
  | entry vec spc fs level u hu => exact .inl ⟨_, rfl, hP.enter _ _ _ _ u (hP.atBoundary s u hu h)⟩
  | dead x y u hu => exact .inl ⟨_, rfl, hP.faultOnFault u x y (hP.atBoundary s u hu h)⟩
  | stops r => exact .inr ⟨r, rfl⟩
  | instr i u hw hu =>
    have htrace (t : State) (ht : P t) : P (traceAfter s.trace t) := by
      unfold traceAfter
      split
      · exact hP.enter _ _ _ _ t ht
      · exact ht
    rcases exec_outcome hP.toStable hw (hP.atBoundary s u hu h) with ⟨t, he, ht⟩ | ⟨vec, spc, fs, v, he, hv⟩ | ⟨r, he⟩
    · exact .inl ⟨_, by rw [he]; rfl, htrace t ht⟩
    · exact .inl ⟨_, by rw [he]; rfl, htrace _ (hP.enter _ _ _ _ v hv)⟩
    · exact .inr ⟨r, by rw [he]; rfl⟩

/-! The configuration. -/

theorem writeCacr_cfg (v : Long) (s : State) : (writeCacr v s).cfg = s.cfg := by
  unfold writeCacr
  split <;> rfl

/-- Everything a write of a control register can come to: the register alone, or, for CACR, also a free value of USP. -/
theorem writeControl_cfg {rc : BitVec 12} {v : Long} {s t : State} (h : writeControl rc v s = some t) : t.cfg = s.cfg := by
  unfold writeControl at h
  dsimp only at h
  repeat' split at h
  all_goals cases h
  all_goals first | rfl | exact writeCacr_cfg v s

theorem stableStep_cfg (c : Config) : StableStep fun s => s.cfg = c where
  setD _ _ _ h := h
  setA s n v h := (State.setA_cfg s n v).trans h
  setFlags _ _ h := h
  loadCcr _ _ h := h
  store _ _ _ _ h := h
  pc _ _ h := h
  synced _ h := h
  writeFaults _ _ h := h
  loadSr _ _ _ h := h
  usp _ _ _ h := h
  run _ _ _ h := h
  control _ _ _ _ _ h ht := (writeControl_cfg ht).trans h
  stopTrace _ _ _ _ h := (enter_cfg _ _ _ _ _).trans h
  enter _ _ _ _ _ h := (enter_cfg _ _ _ _ _).trans h
  faultOnFault _ _ _ h := h
  atBoundary s u hu h := by
    unfold State.AtBoundary at hu
    rw [hu]
    exact h

/-- Settles O9: every shape of a step but a well-formed instruction is no fault, a well-formed instruction comes to none, and all
of them keep the configuration. -/
theorem stepNeverFaults : Obligations.StepNeverFaults := by
  intro s
  rcases (stableStep_cfg s.cfg).step s rfl with ⟨t, ht, hc⟩ | ⟨r, hr⟩
  · refine ⟨fun f hf => ?_, fun u hu => ?_⟩
    · rw [ht] at hf
      cases hf
    · rw [ht] at hu
      cases hu
      exact hc
  · refine ⟨fun f hf => ?_, fun u hu => ?_⟩
    · rw [hr] at hf
      cases hf
    · rw [hr] at hu
      cases hu

/-! The implemented bits of SR (R28). -/

theorem masked_or {m a b : Word} (ha : a &&& m = a) (hb : b &&& m = b) : (a ||| b) &&& m = a ||| b := by
  refine BitVec.eq_of_getLsbD_eq fun i _ => ?_
  have ha := congrArg (fun x => BitVec.getLsbD x i) ha
  have hb := congrArg (fun x => BitVec.getLsbD x i) hb
  simp only [BitVec.getLsbD_and, BitVec.getLsbD_or] at ha hb ⊢
  rw [Bool.and_or_distrib_right, ha, hb]

theorem masked_and {m a : Word} (c : Word) (ha : a &&& m = a) : (a &&& c) &&& m = a &&& c := by
  rw [BitVec.and_assoc, BitVec.and_comm c m, ← BitVec.and_assoc, ha]

theorem entrySr_masked (cfg : Config) (level : Option (BitVec 3)) {w : Word} (h : w &&& srMask cfg = w) :
    entrySr level w &&& srMask cfg = entrySr level w := by
  have hs : 0x2000#16 &&& srMask cfg = 0x2000#16 := by
    unfold srMask
    split <;> decide
  cases level with
  | none => exact masked_or (masked_and _ h) hs
  | some l =>
    have hl : (l.setWidth 16 <<< 8 : Word) &&& srMask cfg = l.setWidth 16 <<< 8 := by
      unfold srMask
      split <;> revert l <;> decide
    exact masked_or (masked_or (masked_and _ h) hs) hl

/-- The five flags are implemented everywhere. -/
theorem into_masked (cfg : Config) (f : Flags) {w : Word} (h : w &&& srMask cfg = w) :
    f.into w &&& srMask cfg = f.into w := by
  refine BitVec.eq_of_getLsbD_eq fun i hi => ?_
  have hbit := congrArg (fun x => BitVec.getLsbD x i) h
  simp only [BitVec.getLsbD_and] at hbit
  simp only [Flags.into, BitVec.getLsbD_and, BitVec.getLsbD_append, BitVec.getLsbD_extractLsb']
  by_cases h5 : i < 5
  · have : (srMask cfg).getLsbD i = true := by
      unfold srMask
      split <;> clear hbit hi <;> revert i <;> decide
    simp [h5, this]
  · simp only [h5, if_false, show 5 + (i - 5) = i by omega]
    rw [Bool.and_assoc, hbit]

theorem loadCcr_masked (cfg : Config) (v : Byte) {w : Word} (h : w &&& srMask cfg = w) :
    ((w &&& 0xFF00#16) ||| (v.setWidth 16 &&& (srMask cfg &&& 0x00FF#16))) &&& srMask cfg =
      (w &&& 0xFF00#16) ||| (v.setWidth 16 &&& (srMask cfg &&& 0x00FF#16)) := by
  refine masked_or (masked_and _ h) ?_
  rw [BitVec.and_comm (v.setWidth 16)]
  exact masked_and _ (masked_and _ (BitVec.and_self))

/-! The invariant. -/

theorem vbrOf_vbrOf (v : Long) : vbrOf (vbrOf v) = vbrOf v := by
  simp only [vbrOf, BitVec.and_assoc, BitVec.and_self]

/-- The invariant looks at five fields. -/
theorem State.Inv.of_eq {s t : State} (h : s.Inv) (hm : t.mem = s.mem) (hv : t.vbr = s.vbr) (hu : t.unsynced = s.unsynced)
    (hs : t.sr = s.sr) (hc : t.cfg = s.cfg) : t.Inv :=
  ⟨hm ▸ h.memory, hv ▸ h.vbrLow, hu ▸ h.stored, hu ▸ h.storedBound, by rw [hs, hc]; exact h.srBits⟩

theorem State.Inv.withSr {s : State} (h : s.Inv) {w : Word} (hw : w &&& srMask s.cfg = w) : ({ s with sr := w } : State).Inv :=
  ⟨h.memory, h.vbrLow, h.stored, h.storedBound, hw⟩

theorem State.Inv.synced {s : State} (h : s.Inv) : s.synced.Inv :=
  ⟨h.memory, h.vbrLow, List.Pairwise.nil, fun _ ha => absurd ha List.not_mem_nil, h.srBits⟩

theorem State.Inv.setA {s : State} (h : s.Inv) (n : Fin 8) (v : Long) : (s.setA n v).Inv :=
  h.of_eq (by simp) (by simp) (by simp) (by simp) (by simp)

theorem State.Inv.setSp {s : State} (h : s.Inv) (v : Long) : (s.setSp v).Inv :=
  h.of_eq (by simp) (by simp) (by simp) (by simp) (by simp)

theorem State.Inv.store {s : State} (h : s.Inv) (a : Long) (sz : Size) (v : Long) : (s.store a sz v).Inv where
  memory := Memory.wf_storeOf _ _ _ _ h.memory
  vbrLow := h.vbrLow
  stored := Addresses.pairwise_insertAll _ _ h.stored
  storedBound b hb := ((Addresses.mem_insertAll _ _ b).mp hb).elim (spanOf_lt a sz.bytes b) (h.storedBound b)
  srBits := h.srBits

theorem State.Inv.loadSr {s : State} (h : s.Inv) (v : Word) : (s.loadSr v).Inv :=
  h.withSr (by rw [BitVec.and_assoc, BitVec.and_self])

theorem State.Inv.enter {s : State} (h : s.Inv) (vec : Byte) (spc : Long) (fs : BitVec 4) (level : Option (BitVec 3)) :
    (enter vec spc fs level s).Inv := by
  have he : (s.entered level).Inv := h.withSr (entrySr_masked _ _ h.srBits)
  rcases enter_cases vec spc fs level s with ⟨-, g⟩ | ⟨-, -, g⟩ | ⟨-, -, -, g⟩ | ⟨-, -, -, g⟩ <;> rw [g]
  · exact he.of_eq rfl rfl rfl rfl rfl
  · exact (he.store _ _ _).of_eq rfl rfl rfl rfl rfl
  · exact (((he.store _ _ _).store _ _ _).setSp _).of_eq rfl rfl rfl rfl rfl
  · exact (((he.store _ _ _).store _ _ _).setSp _).of_eq rfl rfl rfl rfl rfl

theorem State.Inv.writeControl {s t : State} (h : s.Inv) {rc : BitVec 12} {v : Long} (ht : writeControl rc v s = some t) :
    t.Inv := by
  have hcacr : (writeCacr v s).Inv := by
    unfold writeCacr
    split <;> exact h.of_eq rfl rfl rfl rfl rfl
  have hvbr : ({ s with vbr := vbrOf v } : State).Inv :=
    ⟨h.memory, vbrOf_vbrOf v, h.stored, h.storedBound, h.srBits⟩
  unfold Machine.writeControl at ht
  dsimp only at ht
  repeat' split at ht
  all_goals cases ht
  all_goals first | exact hcacr | exact hvbr | exact h.of_eq rfl rfl rfl rfl rfl

theorem stableStep_inv : StableStep State.Inv where
  setD _ _ _ h := h.of_eq rfl rfl rfl rfl rfl
  setA _ n v h := h.setA n v
  setFlags _ f h := h.withSr (into_masked _ f h.srBits)
  loadCcr _ v h := h.withSr (loadCcr_masked _ v h.srBits)
  store _ a sz v h := h.store a sz v
  pc _ _ h := h.of_eq rfl rfl rfl rfl rfl
  synced _ h := h.synced
  writeFaults _ _ h := h.of_eq rfl rfl rfl rfl rfl
  loadSr _ v _ h := h.loadSr v
  usp _ _ _ h := h.of_eq rfl rfl rfl rfl rfl
  run _ _ _ h := h.of_eq rfl rfl rfl rfl rfl
  control _ _ _ _ _ h ht := h.writeControl ht
  stopTrace s v p _ h :=
    State.Inv.enter (s := { s.loadSr v with pc := p }) ((h.loadSr v).of_eq rfl rfl rfl rfl rfl) _ _ _ _
  enter _ _ _ _ _ h := h.enter _ _ _ _
  faultOnFault _ _ _ h := h.of_eq rfl rfl rfl rfl rfl
  atBoundary s u hu h := by
    unfold State.AtBoundary at hu
    rw [hu]
    exact h.of_eq rfl rfl rfl rfl rfl

/-- Settles O4: each change a step can make keeps the invariant, so every shape of a step does. -/
theorem stepKeepsInvariant : Obligations.StepKeepsInvariant := by
  intro s t h ht
  rcases stableStep_inv.step s h with ⟨u, hu, hinv⟩ | ⟨r, hr⟩
  · rw [hu] at ht
    cases ht
    exact hinv
  · rw [hr] at ht
    cases ht

/-- Settles O5: every field the invariant speaks of is written out in the reset state. -/
theorem resetHoldsInvariant : Obligations.ResetHoldsInvariant where
  memory := by decide
  vbrLow := by decide
  stored := List.Pairwise.nil
  storedBound _ h := absurd h List.not_mem_nil
  srBits := by decide

end Sys2Proof.Machine
end

section
/-! PROOFS. What user mode cannot change (spec 10_state.md R31, R32; 60_exceptions.md R402): a property that every part of an
instruction keeps, as the parts that would break it run in supervisor mode only. -/

namespace Sys2Proof.Machine

-- One theorem after another: elaborating them side by side takes a thread each, and no less time.
set_option Elab.async false

/-! The upper bits of SR. -/

/-- The flags stand in bits 4 to 0 (R27). -/
@[simp] theorem Flags.into_upper (f : Flags) (w : Word) : (f.into w).extractLsb' 5 11 = w.extractLsb' 5 11 :=
  BitVec.extractLsb'_append_eq_left

/-- The upper byte is part of the eleven upper bits. -/
theorem upperByte_of_upper {v w : Word} (h : v.extractLsb' 5 11 = w.extractLsb' 5 11) :
    v.extractLsb' 8 8 = w.extractLsb' 8 8 := by
  refine BitVec.eq_of_getLsbD_eq fun i hi => ?_
  have hbit := congrArg (fun x => BitVec.getLsbD x (3 + i)) h
  simpa [hi, show 3 + i < 11 by omega, show 5 + (3 + i) = 8 + i by omega] using hbit

theorem loadCcr_upperByte (s : State) (v : Byte) : (s.loadCcr v).sr.extractLsb' 8 8 = s.sr.extractLsb' 8 8 := by
  refine BitVec.eq_of_getLsbD_eq fun i hi => ?_
  have hmask : (0xFF00#16).getLsbD (8 + i) = true ∧ (0x00FF#16).getLsbD (8 + i) = false := by
    revert i
    decide
  simp only [State.loadCcr, BitVec.getLsbD_extractLsb', BitVec.getLsbD_or, BitVec.getLsbD_and, hi, hmask, decide_true,
    Bool.true_and, Bool.and_true, Bool.and_false, Bool.or_false]

/-- S stands in the upper byte (R31). -/
theorem supervisor_of_upperByte {s t : State} (h : t.sr.extractLsb' 8 8 = s.sr.extractLsb' 8 8) :
    t.supervisor = s.supervisor := by
  have hbit := congrArg (fun x => BitVec.getLsbD x 5) h
  simpa [State.supervisor] using hbit

theorem enter_freeIdx (vec : Byte) (spc : Long) (fs : BitVec 4) (level : Option (BitVec 3)) (s : State) :
    (enter vec spc fs level s).freeIdx = s.freeIdx := by
  rcases enter_cases vec spc fs level s with ⟨-, h⟩ | ⟨-, -, h⟩ | ⟨-, -, -, h⟩ | ⟨-, -, -, h⟩ <;> rw [h] <;>
    simp [State.entered]

/-! The property. -/

/-- What user mode leaves as it was in `s`: the mode with the upper byte of SR, the control registers, the drawn free values, the
supervisor stack pointer where there are two. -/
structure UserKept (s t : State) : Prop where
  user : s.supervisor = false
  upper : t.sr.extractLsb' 8 8 = s.sr.extractLsb' 8 8
  control : t.control = s.control
  cfg : t.cfg = s.cfg
  freeIdx : t.freeIdx = s.freeIdx
  ssp : s.dualSp = true → t.ssp = s.ssp

theorem UserKept.notSupervisor {s t : State} (h : UserKept s t) : t.supervisor = false :=
  (supervisor_of_upperByte h.upper).trans h.user

theorem UserKept.dualSp {s t : State} (h : UserKept s t) : t.dualSp = s.dualSp := by
  have hc : t.cacr = s.cacr := by
    have := h.control
    simp only [State.control, List.cons.injEq] at this
    exact this.2.1
  exact State.dualSp_eq s t h.cfg hc

/-- A change that leaves SR, the control registers, the configuration and the supervisor stack pointer. -/
theorem UserKept.of_eq {s t u : State} (h : UserKept s t) (hs : u.sr = t.sr) (hc : u.control = t.control)
    (hg : u.cfg = t.cfg) (hf : u.freeIdx = t.freeIdx) (hp : s.dualSp = true → u.ssp = t.ssp) : UserKept s u :=
  ⟨h.user, hs ▸ h.upper, hc.trans h.control, hg.trans h.cfg, hf.trans h.freeIdx, fun d => (hp d).trans (h.ssp d)⟩

/-- In user mode with two stack pointers A7 is the user's. -/
theorem UserKept.setA {s t : State} (h : UserKept s t) (n : Fin 8) (v : Long) : UserKept s (t.setA n v) := by
  refine h.of_eq (by simp) (by simp [State.control]) (by simp) (by simp) fun hd => ?_
  by_cases hn : n.val < 7
  · rw [State.setA_lt t n v hn]
  · rw [State.setA_seven t n v hn, State.setSp, if_pos (by rw [h.dualSp, hd, h.notSupervisor]; rfl)]

theorem UserKept.withSr {s t : State} (h : UserKept s t) {w : Word} (hw : w.extractLsb' 8 8 = t.sr.extractLsb' 8 8) :
    UserKept s { t with sr := w } :=
  ⟨h.user, hw.trans h.upper, h.control, h.cfg, h.freeIdx, h.ssp⟩

/-- What happens in supervisor mode only does not happen. -/
theorem UserKept.elim {s t : State} {p : Prop} (h : UserKept s t) (hs : t.supervisor = true) : p := by
  rw [h.notSupervisor] at hs
  cases hs

theorem stable_userKept (s : State) : Stable (UserKept s) where
  setD _ _ _ h := h.of_eq rfl rfl rfl rfl fun _ => rfl
  setA _ n v h := h.setA n v
  setFlags _ f h := h.withSr (upperByte_of_upper (f.into_upper _))
  loadCcr t v h := h.withSr (loadCcr_upperByte t v)
  store _ _ _ _ h := h.of_eq rfl rfl rfl rfl fun _ => rfl
  pc _ _ h := h.of_eq rfl rfl rfl rfl fun _ => rfl
  synced _ h := h.of_eq rfl rfl rfl rfl fun _ => rfl
  writeFaults _ _ h := h.of_eq rfl rfl rfl rfl fun _ => rfl
  loadSr _ _ hs h := h.elim hs
  usp _ _ hs h := h.elim hs
  run _ _ hs h := h.elim hs
  control _ _ _ _ hs h _ := h.elim hs
  stopTrace _ _ _ hs h := h.elim hs

/-! The statement. -/

/-- What `UserModeConfined` says of the state after a step. -/
def Confined (s t : State) : Prop :=
  t.control = s.control ∧ t.freeIdx = s.freeIdx ∧
  (t.inhibit = false → t.run = .running →
    t.supervisor = false ∧ t.sr.extractLsb' 8 8 = s.sr.extractLsb' 8 8 ∧ (s.dualSp = true → t.ssp = s.ssp)) ∧
  (t.supervisor = true → t.inhibit = true ∨ t.run ≠ .running)

theorem UserKept.confined {s t : State} (h : UserKept s t) : Confined s t :=
  ⟨h.control, h.freeIdx, fun _ _ => ⟨h.notSupervisor, h.upper, h.ssp⟩, h.elim⟩

/-- An exception ends user mode, and is being processed, or has halted the core. -/
theorem UserKept.confined_enter {s u : State} (h : UserKept s u) (vec : Byte) (spc : Long) (fs : BitVec 4)
    (level : Option (BitVec 3)) : Confined s (enter vec spc fs level u) := by
  have hq := enter_not_quiet vec spc fs level u
  refine ⟨(enter_control _ _ _ _ u).trans h.control, (enter_freeIdx _ _ _ _ u).trans h.freeIdx,
    fun hi hr => absurd ⟨hi, hr⟩ hq, fun _ => ?_⟩
  by_contra hc
  obtain ⟨hi, hr⟩ := not_or.mp hc
  exact hq ⟨by simpa using hi, not_not.mp hr⟩

theorem traceAfter_enter (b : Bool) (vec : Byte) (spc : Long) (fs : BitVec 4) (level : Option (BitVec 3)) (u : State) :
    traceAfter b (enter vec spc fs level u) = enter vec spc fs level u := by
  have hq := enter_not_quiet vec spc fs level u
  unfold traceAfter
  rw [if_neg]
  intro hc
  simp only [Bool.and_eq_true, Bool.not_eq_true', decide_eq_true_eq] at hc
  exact hq ⟨hc.1.2, hc.2⟩

/-- Settles O56: before and after a boundary user mode is kept, an instruction keeps it or takes an exception, and so does trace. -/
theorem userModeConfined : Obligations.UserModeConfined := by
  intro s t _ hs ht
  have kept {u : State} (hu : s.AtBoundary u) : UserKept s u := by
    unfold State.AtBoundary at hu
    rw [hu]
    exact ⟨hs, rfl, rfl, rfl, rfl, fun _ => rfl⟩
  have hshape := step_shape s
  rw [ht] at hshape
  generalize ho : Host.Outcome.next t = o at hshape
  cases hshape with
  | boundary v hv =>
    cases ho
    exact (kept hv).confined
  | entry vec spc fs level u hu =>
    cases ho
    exact (kept hu).confined_enter _ _ _ _
  | dead x y u hu =>
    cases ho
    have hk : UserKept s (u.faultOnFault x y) := (kept hu).of_eq rfl rfl rfl rfl fun _ => rfl
    exact hk.confined
  | stops r => cases ho
  | instr i u hw hu =>
    rcases exec_outcome (stable_userKept s) hw (kept hu) with ⟨v, he, hv⟩ | ⟨vec, spc, fs, v, he, hv⟩ | ⟨r, he⟩
    · rw [he] at ho
      cases ho
      unfold traceAfter
      split
      · exact hv.confined_enter _ _ _ _
      · exact hv.confined
    · rw [he] at ho
      cases ho
      rw [traceAfter_enter]
      exact hv.confined_enter _ _ _ _
    · rw [he] at ho
      cases ho

end Sys2Proof.Machine
end

section
/-! PROOFS. The `W`-bit numbers of operands (spec 00_scope.md R11), the carry, borrow and overflow of R29 and the conditions after a
compare (spec 10_state.md R29, R30; 42_program_control.md R181): every claim becomes one about the unsigned numbers `u`, by size. -/

namespace Sys2Proof

-- One theorem after another: elaborating them side by side takes a thread each, and no less time.
set_option Elab.async false

/-! Signed and unsigned numbers of `W` bits. -/

theorem Size.u_eq (sz : Size) (v : Long) : sz.u v = v.toNat % 2 ^ sz.bits := by
  cases sz with
  | byte =>
    simp only [Size.u, Size.trunc, Size.bits, BitVec.toNat_setWidth]
    omega
  | word =>
    simp only [Size.u, Size.trunc, Size.bits, BitVec.toNat_setWidth]
    omega
  | long => exact (Nat.mod_eq_of_lt v.isLt).symm

theorem Size.u_lt (sz : Size) (v : Long) : sz.u v < 2 ^ sz.bits := by
  rw [Size.u_eq]
  exact Nat.mod_lt _ (Nat.two_pow_pos _)

theorem getLsbD_iff_div (v : Long) (b : Nat) : v.getLsbD b = true ↔ v.toNat / 2 ^ b % 2 = 1 := by
  rw [← BitVec.testBit_toNat, Nat.testBit_eq_decide_div_mod_eq, decide_eq_true_eq]

/-- Bit `W - 1` is set on the upper half of the numbers. -/
theorem Size.msb_iff (sz : Size) (v : Long) : sz.msb v = true ↔ 2 ^ (sz.bits - 1) ≤ sz.u v := by
  have := v.isLt
  rw [Size.u_eq]
  cases sz <;> simp only [Size.msb, Size.bits, getLsbD_iff_div] <;> omega

/-- The signed number of the same bits. -/
theorem Size.i_eq (sz : Size) (v : Long) :
    sz.i v = if 2 ^ (sz.bits - 1) ≤ sz.u v then (sz.u v : Int) - 2 ^ sz.bits else sz.u v := by
  rw [Size.u_eq]
  cases sz with
  | byte =>
    simp only [Size.i, Size.sext, Size.bits, BitVec.toInt_signExtend_of_le (show 8 ≤ 32 by decide),
      BitVec.toInt_eq_toNat_cond, BitVec.toNat_setWidth]
    omega
  | word =>
    simp only [Size.i, Size.sext, Size.bits, BitVec.toInt_signExtend_of_le (show 16 ≤ 32 by decide),
      BitVec.toInt_eq_toNat_cond, BitVec.toNat_setWidth]
    omega
  | long =>
    have := v.isLt
    simp only [Size.i, Size.sext, Size.bits, BitVec.toInt_eq_toNat_cond]
    omega

/-- Operands of one signed number have one unsigned number. -/
theorem Size.i_inj (sz : Size) (d s : Long) : sz.i d = sz.i s ↔ sz.u d = sz.u s := by
  have hd := sz.u_lt d
  have hs := sz.u_lt s
  rw [Size.i_eq, Size.i_eq]
  cases sz <;> simp only [Size.bits] at * <;> omega

theorem bitNat_lt (x : Bool) : bitNat x < 2 := by cases x <;> decide

theorem Size.trunc_eq_zero (sz : Size) (v : Long) : sz.trunc v = 0#32 ↔ sz.u v = 0 := by
  rw [Size.u, ← BitVec.toNat_inj]
  rfl

theorem Size.u_trunc (sz : Size) (v : Long) : sz.u (sz.trunc v) = sz.u v := by
  rw [Size.u_eq sz (sz.trunc v), ← Size.u, Nat.mod_eq_of_lt (sz.u_lt v)]

theorem Size.msb_trunc (sz : Size) (v : Long) : sz.msb (sz.trunc v) = sz.msb v := by
  rw [Bool.eq_iff_iff, sz.msb_iff, sz.msb_iff, sz.u_trunc]

theorem Size.trunc_trunc (sz : Size) (v : Long) : sz.trunc (sz.trunc v) = sz.trunc v := by
  cases sz <;> simp [Size.trunc]

end Sys2Proof

namespace Sys2Proof.Machine

-- One theorem after another: elaborating them side by side takes a thread each, and no less time.
set_option Elab.async false

/-- The sum in `W` bits. -/
theorem u_addResult (sz : Size) (d s : Long) (x : Bool) :
    sz.u (addResult sz d s x) = (sz.u d + sz.u s + bitNat x) % 2 ^ sz.bits := by
  have := bitNat_lt x
  rw [addResult, Size.u_trunc]
  simp only [Size.u_eq]
  cases sz <;> simp only [Size.bits, BitVec.toNat_add, BitVec.toNat_ofNat] <;> omega

/-- The difference in `W` bits. -/
theorem u_subResult (sz : Size) (d s : Long) (x : Bool) :
    sz.u (subResult sz d s x) = (sz.u d + 2 ^ sz.bits - (sz.u s + bitNat x)) % 2 ^ sz.bits := by
  have := bitNat_lt x
  have := d.isLt
  have := s.isLt
  rw [subResult, Size.u_trunc]
  simp only [Size.u_eq]
  cases sz <;> simp only [Size.bits, BitVec.toNat_sub, BitVec.toNat_ofNat] <;> omega

/-- A result has `W` bits. -/
theorem trunc_addResult (sz : Size) (d s : Long) (x : Bool) : sz.trunc (addResult sz d s x) = addResult sz d s x :=
  sz.trunc_trunc _

theorem trunc_subResult (sz : Size) (d s : Long) (x : Bool) : sz.trunc (subResult sz d s x) = subResult sz d s x :=
  sz.trunc_trunc _

theorem inRange_iff (sz : Size) (n : Int) : sz.inRange n = true ↔ -(2 ^ (sz.bits - 1)) ≤ n ∧ n ≤ 2 ^ (sz.bits - 1) - 1 := by
  simp [Size.inRange]

/-! Carry, borrow and overflow as conditions on numbers (R29). -/

theorem addCarry_iff (sz : Size) (d s : Long) (x : Bool) :
    addCarry sz d s x = true ↔ 2 ^ sz.bits ≤ sz.u d + sz.u s + bitNat x := decide_eq_true_iff

theorem subBorrow_iff (sz : Size) (d s : Long) (x : Bool) :
    subBorrow sz d s x = true ↔ sz.u d < sz.u s + bitNat x := decide_eq_true_iff

theorem addOverflow_iff (sz : Size) (d s : Long) (x : Bool) :
    addOverflow sz d s x = true ↔
      sz.i d + sz.i s + bitNat x < -(2 ^ (sz.bits - 1)) ∨ 2 ^ (sz.bits - 1) - 1 < sz.i d + sz.i s + bitNat x := by
  rw [addOverflow, Bool.not_eq_true', ← Bool.not_eq_true, inRange_iff]
  omega

theorem subOverflow_iff (sz : Size) (d s : Long) (x : Bool) :
    subOverflow sz d s x = true ↔
      sz.i d - sz.i s - bitNat x < -(2 ^ (sz.bits - 1)) ∨ 2 ^ (sz.bits - 1) - 1 < sz.i d - sz.i s - bitNat x := by
  rw [subOverflow, Bool.not_eq_true', ← Bool.not_eq_true, inRange_iff]
  omega

/-! The bit formulas of R29. -/

theorem addBits_eq (sz : Size) (d s : Long) (x : Bool) :
    (addCarry sz d s x, addOverflow sz d s x) = addBits (sz.msb s) (sz.msb d) (sz.msb (addResult sz d s x)) := by
  have hx := bitNat_lt x
  have hd := sz.u_lt d
  have hs := sz.u_lt s
  have hr := u_addResult sz d s x
  refine Prod.ext ?_ ?_
  · rw [Bool.eq_iff_iff]
    simp only [addBits, Bool.or_eq_true, Bool.and_eq_true, Bool.not_eq_true', ← Bool.not_eq_true,
      addCarry_iff, Size.msb_iff]
    cases sz <;> simp only [Size.bits] at * <;> omega
  · rw [Bool.eq_iff_iff]
    simp only [addBits, Bool.or_eq_true, Bool.and_eq_true, Bool.not_eq_true', ← Bool.not_eq_true,
      addOverflow_iff, Size.msb_iff, Size.i_eq]
    cases sz <;> simp only [Size.bits] at * <;> omega

theorem subBits_eq (sz : Size) (d s : Long) (x : Bool) :
    (subBorrow sz d s x, subOverflow sz d s x) = subBits (sz.msb s) (sz.msb d) (sz.msb (subResult sz d s x)) := by
  have hx := bitNat_lt x
  have hd := sz.u_lt d
  have hs := sz.u_lt s
  have hr := u_subResult sz d s x
  refine Prod.ext ?_ ?_
  · rw [Bool.eq_iff_iff]
    simp only [subBits, Bool.or_eq_true, Bool.and_eq_true, Bool.not_eq_true', ← Bool.not_eq_true,
      subBorrow_iff, Size.msb_iff]
    cases sz <;> simp only [Size.bits] at * <;> omega
  · rw [Bool.eq_iff_iff]
    simp only [subBits, Bool.or_eq_true, Bool.and_eq_true, Bool.not_eq_true', ← Bool.not_eq_true,
      subOverflow_iff, Size.msb_iff, Size.i_eq]
    cases sz <;> simp only [Size.bits] at * <;> omega

/-! The flags field by field (R211). -/

/-- Without X the result is the `W`-bit sum. -/
theorem addResult_false (sz : Size) (d s : Long) : addResult sz d s false = sz.trunc (d + s) := by
  simp [addResult, bitNat]

theorem subResult_false (sz : Size) (d s : Long) : subResult sz d s false = sz.trunc (d - s) := by
  simp [subResult, bitNat]

theorem Flags.add_n (sz : Size) (d s : Long) : (Flags.add sz d s).n = sz.msb (d + s) := by
  simp only [Flags.add, addResult_false, Size.msb_trunc]

theorem Flags.sub_n (sz : Size) (d s : Long) : (Flags.sub sz d s).n = sz.msb (d - s) := by
  simp only [Flags.sub, subResult_false, Size.msb_trunc]

theorem result_eq_zero_iff {sz : Size} {r : Long} (h : sz.trunc r = r) : r = 0#32 ↔ sz.u r = 0 := by
  rw [← Size.trunc_eq_zero, h]

theorem Flags.add_z (sz : Size) (d s : Long) : (Flags.add sz d s).z = true ↔ (sz.u d + sz.u s) % 2 ^ sz.bits = 0 := by
  have hr := u_addResult sz d s false
  rw [show (Flags.add sz d s).z = decide (addResult sz d s false = 0#32) from rfl, decide_eq_true_iff,
    result_eq_zero_iff (trunc_addResult sz d s false), hr]
  simp [bitNat]

theorem Flags.sub_z (sz : Size) (d s : Long) : (Flags.sub sz d s).z = true ↔ sz.u d = sz.u s := by
  have hr := u_subResult sz d s false
  have hd := sz.u_lt d
  have hs := sz.u_lt s
  rw [show (Flags.sub sz d s).z = decide (subResult sz d s false = 0#32) from rfl, decide_eq_true_iff,
    result_eq_zero_iff (trunc_subResult sz d s false), hr]
  simp only [bitNat, Bool.false_eq_true, if_false]
  cases sz <;> simp only [Size.bits] at * <;> omega

theorem Flags.add_v (sz : Size) (d s : Long) :
    (Flags.add sz d s).v = true ↔ sz.i d + sz.i s < -(2 ^ (sz.bits - 1)) ∨ 2 ^ (sz.bits - 1) - 1 < sz.i d + sz.i s := by
  change addOverflow sz d s false = true ↔ _
  simp [bitNat, addOverflow_iff]

theorem Flags.sub_v (sz : Size) (d s : Long) :
    (Flags.sub sz d s).v = true ↔ sz.i d - sz.i s < -(2 ^ (sz.bits - 1)) ∨ 2 ^ (sz.bits - 1) - 1 < sz.i d - sz.i s := by
  change subOverflow sz d s false = true ↔ _
  simp [bitNat, subOverflow_iff]

theorem Flags.add_c (sz : Size) (d s : Long) : (Flags.add sz d s).c = true ↔ 2 ^ sz.bits ≤ sz.u d + sz.u s := by
  change addCarry sz d s false = true ↔ _
  simp [bitNat, addCarry_iff]

theorem Flags.sub_c (sz : Size) (d s : Long) : (Flags.sub sz d s).c = true ↔ sz.u d < sz.u s := by
  change subBorrow sz d s false = true ↔ _
  simp [bitNat, subBorrow_iff]

/-- Settles O11: each field from the carry, the overflow and the result as conditions on `W`-bit numbers, and the bit formulas by
size from the same conditions. -/
theorem flagBitFormulas : Obligations.FlagBitFormulas :=
  ⟨fun sz d s => ⟨Flags.add_n sz d s, Flags.add_z sz d s, Flags.add_v sz d s, Flags.add_c sz d s, rfl,
      Flags.sub_n sz d s, Flags.sub_z sz d s, Flags.sub_v sz d s, Flags.sub_c sz d s, rfl, fun _ => rfl⟩,
    fun sz d s x => ⟨addBits_eq sz d s x, subBits_eq sz d s x⟩⟩

/-! The conditions (R181). -/

theorem decode_scc_codes (n : Nat) (c : Cond) (h : n = c.code) (dx : Fin 8) :
    decode [BitVec.ofNat 16 (0x50C0 + 256 * n + dx.val)] = .ok (.scc c dx, []) := by
  rw [h, Nat.mul_comm]
  exact decode_encode (.scc c dx) rfl []

theorem decode_bcc_codes (n : Nat) (c : Cond) (h : n = c.code) (hn : 2 ≤ n) :
    decode [BitVec.ofNat 16 (0x6002 + 256 * n)] = .ok (.bcc c (.byte 2#8), []) := by
  have hw : (Instr.bcc c (.byte 2#8)).wf = true := by
    subst h
    revert hn
    cases c <;> decide
  have hop : 0x6002 + 256 * n = 0x6000 + c.code * 256 + (2#8).toNat := by
    rw [h]
    simp
    omega
  rw [hop]
  exact decode_encode _ hw []

/-- The place of a condition in the table is its code. -/
theorem code_of_place {n : Nat} {c : Cond}
    (h : ([.t, .f, .hi, .ls, .cc, .cs, .ne, .eq, .vc, .vs, .pl, .mi, .ge, .lt, .gt, .le] : List Cond)[n]? = some c) :
    n = c.code := by
  obtain ⟨hn, hc⟩ := List.getElem?_eq_some_iff.mp h
  subst hc
  simp only [List.length_cons, List.length_nil] at hn
  interval_cases n <;> rfl

theorem Flags.sub_n_iff (sz : Size) (d s : Long) :
    (Flags.sub sz d s).n = true ↔ 2 ^ (sz.bits - 1) ≤ (sz.u d + 2 ^ sz.bits - sz.u s) % 2 ^ sz.bits := by
  rw [show (Flags.sub sz d s).n = sz.msb (subResult sz d s false) from rfl, Size.msb_iff, u_subResult]
  simp [bitNat]

/-- N and V differ exactly where the difference is negative as a signed number. -/
theorem Flags.sub_n_ne_v_iff (sz : Size) (d s : Long) :
    ((Flags.sub sz d s).n != (Flags.sub sz d s).v) = true ↔ sz.i d < sz.i s := by
  have hd := sz.u_lt d
  have hs := sz.u_lt s
  rw [bne_iff_ne, ne_eq, Bool.eq_iff_iff, Flags.sub_n_iff, Flags.sub_v, Size.i_eq, Size.i_eq]
  cases sz <;> simp only [Size.bits] at * <;> omega

/-! What a compare says. -/

theorem Flags.cmp_eq (sz : Size) (d s : Long) (f : Flags) : Flags.cmp sz d s f = { Flags.sub sz d s with x := f.x } := rfl

/-- HI and LS: no borrow and no zero. -/
theorem condHolds_hi_cmp (sz : Size) (d s : Long) (f : Flags) :
    condHolds .hi (Flags.cmp sz d s f) = decide (sz.u s < sz.u d) := by
  have hc := Flags.sub_c sz d s
  have hz := Flags.sub_z sz d s
  rw [Bool.eq_iff_iff, decide_eq_true_iff]
  simp only [condHolds, Flags.cmp_eq, Bool.and_eq_true, Bool.not_eq_true', ← Bool.not_eq_true, hc, hz]
  omega

theorem condHolds_cs_cmp (sz : Size) (d s : Long) (f : Flags) :
    condHolds .cs (Flags.cmp sz d s f) = decide (sz.u d < sz.u s) := by
  rw [Bool.eq_iff_iff, decide_eq_true_iff]
  exact Flags.sub_c sz d s

theorem condHolds_lt_cmp (sz : Size) (d s : Long) (f : Flags) :
    condHolds .lt (Flags.cmp sz d s f) = decide (sz.i d < sz.i s) := by
  rw [Bool.eq_iff_iff, decide_eq_true_iff]
  exact Flags.sub_n_ne_v_iff sz d s

theorem condHolds_gt_cmp (sz : Size) (d s : Long) (f : Flags) :
    condHolds .gt (Flags.cmp sz d s f) = decide (sz.i s < sz.i d) := by
  have hz := (Flags.sub_z sz d s).trans (sz.i_inj d s).symm
  have hl := Flags.sub_n_ne_v_iff sz d s
  rw [bne_iff_ne, ne_eq, not_iff_comm] at hl
  rw [Bool.eq_iff_iff, decide_eq_true_iff, condHolds, Bool.and_eq_true, Bool.not_eq_true', ← Bool.not_eq_true, beq_iff_eq]
  change ¬(Flags.sub sz d s).z = true ∧ (Flags.sub sz d s).n = (Flags.sub sz d s).v ↔ _
  rw [hz, ← hl]
  omega

/-- A condition with an even code is the opposite of the one after it. -/
theorem condHolds_opposite (f : Flags) :
    condHolds .ls f = !condHolds .hi f ∧ condHolds .cc f = !condHolds .cs f ∧ condHolds .ge f = !condHolds .lt f ∧
      condHolds .le f = !condHolds .gt f := by
  refine ⟨?_, rfl, ?_, ?_⟩
  · simp [condHolds]
  · simp [condHolds, bne]
  · simp [condHolds, bne]

theorem decide_eq_not {p q : Prop} [Decidable p] [Decidable q] (h : p ↔ ¬q) : (!decide q) = decide p := by
  rw [← decide_not]
  exact (decide_eq_decide.mpr h).symm

/-- Settles O12: each code by its place in the table, each test by its definition, and the readings after a compare of HI, CS, LT and
GT from the borrow, Z and the signs; the other four are their opposites. -/
theorem conditionCodes : Obligations.ConditionCodes := by
  refine ⟨⟨fun n c h dx => decode_scc_codes n c (code_of_place h) dx,
    fun n c h hn => decode_bcc_codes n c (code_of_place h) hn, rfl, rfl⟩, fun f => ?_, fun sz d s f => ?_⟩
  · refine ⟨rfl, rfl, ?_, ?_, ?_, Iff.rfl, ?_, Iff.rfl, ?_, Iff.rfl, ?_, Iff.rfl, ?_, ?_, ?_, ?_, fun c x => ?_⟩
    all_goals first | (cases c <;> rfl) | simp [condHolds]
  · obtain ⟨ls, cc, ge, le⟩ := condHolds_opposite (Flags.cmp sz d s f)
    rw [ls, cc, ge, le, condHolds_hi_cmp, condHolds_cs_cmp, condHolds_lt_cmp, condHolds_gt_cmp]
    exact ⟨rfl, decide_eq_not not_lt.symm, decide_eq_not not_lt.symm, rfl, decide_eq_not not_lt.symm, rfl, rfl,
      decide_eq_not not_lt.symm⟩

end Sys2Proof.Machine
end

section
/-! PROOFS. The data movement instructions complete (spec 41_data_movement.md R150 to R164): the shared operations of their
pseudocode come to their values one after another, and what is left is what the operands are. -/

namespace Sys2Proof

-- One theorem after another: elaborating them side by side takes a thread each, and no less time.
set_option Elab.async false

/-! Sign extension. -/

theorem Size.i_zero (sz : Size) : sz.i 0#32 = 0 := by cases sz <;> rfl
theorem Size.u_zero (sz : Size) : sz.u 0#32 = 0 := by cases sz <;> rfl

theorem Size.sext_eq_zero (sz : Size) (v : Long) : sz.sext v = 0#32 ↔ sz.trunc v = 0#32 := by
  have hu : sz.trunc v = 0#32 ↔ sz.u v = sz.u 0#32 := by rw [sz.trunc_eq_zero, sz.u_zero]
  rw [hu, ← sz.i_inj, sz.i_zero, ← BitVec.toInt_inj]
  rfl

/-- The sign bit of the operand is the sign bit of the extended one. -/
theorem Size.sext_sign (sz : Size) (v : Long) : (sz.sext v).getLsbD 31 = sz.msb v := by
  cases sz with
  | byte | word =>
    simp only [Size.sext, Size.msb, BitVec.getLsbD_signExtend, BitVec.msb_eq_getLsbD_last, BitVec.getLsbD_setWidth]
    rfl
  | long => rfl

/-! The two halves of a data register that a word was written to. -/

theorem Size.word_merge_low (old v : Long) : (Size.word.merge old v).extractLsb' 0 16 = v.setWidth 16 :=
  BitVec.extractLsb'_append_eq_right

theorem Size.word_merge_high (old v : Long) : (Size.word.merge old v).extractLsb' 16 16 = old.extractLsb' 16 16 :=
  BitVec.extractLsb'_append_eq_left

end Sys2Proof

namespace Sys2Proof.Machine

-- One theorem after another: elaborating them side by side takes a thread each, and no less time.
set_option Elab.async false

/-! Whole instructions. -/

@[simp] theorem written_flags (sz : Size) (ea : Ea) (v : Long) (s : State) : (written sz ea v s).flags = s.flags := by
  cases ea <;> simp [written]

theorem Flags.moveStyle_eq (sz : Size) (r : Long) (f : Flags) :
    Flags.moveStyle sz r f = ⟨f.x, sz.msb r, decide (sz.trunc r = 0#32), false, false⟩ := rfl

/-- An instruction that reads a source and then changes registers. -/
theorem finish_readEa {sz : Size} {src : Ea} {s : State} (h : sourceReady sz 1 src s = true) (k : Nat)
    (g : Long → State → State) :
    finish s ((readEa sz 1 src s).bind fun v s => advance k (g v s)) =
      .next ((g (sourceValue sz src s) (eaUpdate sz src s)).advanced k) := by
  rw [readEa_ok sz 1 src s h]
  rfl

/-- An instruction that works from a source on a data register. -/
theorem finish_sourceToD {sz : Size} {src : Ea} {s : State} (h : sourceReady sz 1 src s = true) (k : Nat) (n : Fin 8)
    (f : Long → Long → Flags → Long × Flags) :
    finish s ((sourceToD sz 1 src n f s).bind fun _ s => advance k s) =
      .next ((((eaUpdate sz src s).setD n (f (sourceValue sz src s) (s.getD n) s.flags).1).setFlags
        (f (sourceValue sz src s) (s.getD n) s.flags).2).advanced k) := by
  rw [sourceToD_ok sz 1 src n f s h]
  rfl

/-- An instruction that writes a destination and then the flags. -/
theorem finish_writeEa {sz : Size} {ea : Ea} {s : State} (h : destReady sz 1 ea s = true) (v : Long) (k : Nat)
    (g : Flags → Flags) :
    finish s ((writeEa sz 1 ea v s).bind fun _ s => advance k (s.setFlags (g s.flags))) =
      .next (((written sz ea v s).setFlags (g s.flags)).advanced k) := by
  rw [writeEa_ok sz 1 ea v s h, Res.bind_ok, advance_eq, written_flags]
  rfl

theorem exec_moveInstr (sz : Size) (src dst : Ea) (s : State) :
    exec (moveInstr sz src dst) s = finish s (moveOp sz src dst s) := by
  cases sz <;> rfl

/-- Settles O13: the source comes to its value, the destination is written in the state after the source's update. -/
theorem moveCompletes : Obligations.MoveCompletes := by
  intro sz src dst s _ hs hd
  rw [exec_moveInstr, moveOp, readEa_ok sz 1 src s hs, Res.bind_ok, writeEa_ok sz _ dst _ _ hd, Res.bind_ok, advance_eq,
    written_flags, eaUpdate_flags, Flags.moveStyle_eq]
  rfl

/-- Settles O14: each of the five reads its source, or computes its address, and writes one address register. -/
theorem addressRegisterResults : Obligations.AddressRegisterResults := by
  intro src ax s
  refine ⟨fun h => finish_readEa h _ fun v s => s.setA ax (Size.word.sext v),
    fun h => finish_readEa h _ fun v s => s.setA ax v,
    fun h => finish_readEa h _ fun v s => s.setA ax (s.getA ax + v),
    fun h => finish_readEa h _ fun v s => s.setA ax (s.getA ax - v), fun hc h => ?_⟩
  change finish s ((eaAddr .long 1 src s).bind _) = _
  rw [eaAddr_ok _ _ _ _ h, eaUpdate_of_control _ _ _ hc]
  rfl

/-- Settles O15: sign extension keeps the sign bit and zero; zero fill is the operand's unsigned number. -/
theorem extendingMoves : Obligations.ExtendingMoves := by
  intro sz src dx s _ h
  refine ⟨⟨sz.sext (sourceValue sz src s), ?_, rfl⟩, ⟨sz.trunc (sourceValue sz src s), ?_, rfl⟩⟩
  · simp only [Size.sext_sign, Size.sext_eq_zero]
    exact finish_sourceToD h _ dx fun v _ f => (sz.sext v, Flags.moveStyle sz v f)
  · exact finish_sourceToD h _ dx fun v _ f => (sz.trunc v, { Flags.moveStyle sz v f with n := false })

/-! CLR and MOV3Q. -/

theorem Flags.moveStyle_zero (sz : Size) (f : Flags) :
    Flags.moveStyle sz 0#32 f = ⟨f.x, false, true, false, false⟩ := by
  cases sz <;> rfl

theorem mov3qData_eq (q : Fin 8) : mov3qData q = if q = 0 then 0xFFFFFFFF#32 else BitVec.ofNat 32 q.val := by
  fin_cases q <;> rfl

/-- The data of MOV3Q is negative for a data field of 0 alone, and never zero. -/
theorem Flags.moveStyle_mov3qData (q : Fin 8) (f : Flags) :
    Flags.moveStyle .long (mov3qData q) f = ⟨f.x, decide (q = 0), false, false, false⟩ := by
  have hn : Size.long.msb (mov3qData q) = decide (q = 0) := by
    revert q
    decide
  have hz : decide (Size.long.trunc (mov3qData q) = 0#32) = false := by
    revert q
    decide
  rw [Flags.moveStyle_eq, hn, hz]

/-- Settles O16: the destination is written without being read, and the flags describe the constant. -/
theorem clearAndQuickMove : Obligations.ClearAndQuickMove := by
  refine ⟨fun sz ea s _ h => ?_, fun q ea s _ h => ?_⟩
  · rw [← Flags.moveStyle_zero sz]
    exact finish_writeEa h 0#32 _ (Flags.moveStyle sz 0#32)
  · rw [← Flags.moveStyle_mov3qData, ← mov3qData_eq]
    exact finish_writeEa h (mov3qData q) _ (Flags.moveStyle .long (mov3qData q))

/-! The condition code register. -/

/-- CCR's implemented bits: the five flags everywhere, P on V3 only (R28). -/
theorem srMask_low (cfg : Config) :
    (∀ i, i < 5 → (srMask cfg).getLsbD i = true) ∧ (∀ i, i < 2 → (srMask cfg).getLsbD (5 + i) = false) ∧
      (srMask cfg).getLsbD 7 = decide (cfg.core = .v3) := by
  by_cases h : cfg.core = .v3 <;> simp only [srMask, h, if_true, if_false] <;> decide

theorem ccrWord_eq {s : State} (h : s.sr &&& srMask s.cfg = s.sr) : ccrWord s = s.sr &&& 0x00FF#16 := by
  rw [ccrWord, BitVec.and_assoc, BitVec.and_comm _ (srMask s.cfg), ← BitVec.and_assoc, h]

/-- A bit of the low byte of SR after a load of CCR. -/
theorem loadCcr_getLsbD (s : State) (v : Byte) {i : Nat} (hi : i < 8) :
    (s.loadCcr v).sr.getLsbD i = (v.getLsbD i && (srMask s.cfg).getLsbD i) := by
  have hmask : (0xFF00#16).getLsbD i = false ∧ (0x00FF#16).getLsbD i = true := by
    revert i
    decide
  simp only [State.loadCcr, BitVec.getLsbD_or, BitVec.getLsbD_and, BitVec.getLsbD_setWidth, hmask, show i < 16 by omega,
    decide_true, Bool.and_false, Bool.false_or, Bool.true_and, Bool.and_true]

theorem loadCcr_flags (s : State) (v : Byte) : (s.loadCcr v).flags = Flags.ofWord (v.setWidth 16) := by
  obtain ⟨hflags, -, -⟩ := srMask_low s.cfg
  have bit (i : Nat) (h : i < 5) : (s.loadCcr v).sr.getLsbD i = (v.setWidth 16).getLsbD i := by
    rw [loadCcr_getLsbD s v (by omega), hflags i h, Bool.and_true]
    simp [show i < 16 by omega]
  simp only [State.flags, Flags.ofWord, bit 4 (by decide), bit 3 (by decide), bit 2 (by decide), bit 1 (by decide),
    bit 0 (by decide)]

/-- The two bits above the flags are implemented nowhere. -/
theorem loadCcr_unimplemented (s : State) (v : Byte) : (s.loadCcr v).sr.extractLsb' 5 2 = 0#2 := by
  obtain ⟨-, hzero, -⟩ := srMask_low s.cfg
  refine BitVec.eq_of_getLsbD_eq fun i hi => ?_
  rw [BitVec.getLsbD_extractLsb', loadCcr_getLsbD s v (by omega), hzero i hi]
  simp

/-- Flags look at the low five bits only. -/
theorem Flags.ofWord_byte (v : Long) : Flags.ofWord ((v.setWidth 8).setWidth 16) = Flags.ofWord (v.setWidth 16) := by
  simp [Flags.ofWord]

theorem eaUpdate_of_dregOrImm {sz z : Size} {ea : Ea} {s : State} (h : ea.dregOrImm z = true) : eaUpdate sz ea s = s := by
  cases ea <;> first | rfl | cases h

/-- Settles O18: a word written to a data register keeps the upper half; the low byte of SR bit by bit. -/
theorem ccrMoves : Obligations.CcrMoves := by
  refine ⟨fun dx s hsr => ⟨_, rfl, ?_, Size.word_merge_high _ _⟩, fun src s hsrc h => ?_⟩
  · rw [Size.word_merge_low, ← ccrWord_eq hsr]
    simp
  · refine ⟨(s.loadCcr ((sourceValue .byte src s).setWidth 8)).sr, ?_, ?_, loadCcr_upperByte _ _,
      loadCcr_unimplemented _ _, ?_⟩
    · refine (finish_readEa h _ fun v s => s.loadCcr (v.setWidth 8)).trans ?_
      rw [eaUpdate_of_dregOrImm hsrc]
      rfl
    · exact (loadCcr_flags _ _).trans (Flags.ofWord_byte _)
    · obtain ⟨-, -, hp⟩ := srMask_low s.cfg
      rw [loadCcr_getLsbD _ _ (by decide), hp, Bool.and_comm, BitVec.getLsbD_setWidth]
      rfl

end Sys2Proof.Machine
end

section
/-! PROOFS. The instructions that compute a register or an operand (spec 43_integer_arithmetic.md, 44_logical.md, 45_shift.md R285):
what the shared operations come to, and the printed result and flags. -/

namespace Sys2Proof.Machine

-- One theorem after another: elaborating them side by side takes a thread each, and no less time.
set_option Elab.async false

/-! Sign extension of narrower words. -/

theorem signExtend_sign {w : Nat} (h : w ≤ 31) (v : BitVec w) : (v.signExtend 32).getLsbD 31 = v.msb := by
  simp only [BitVec.getLsbD_signExtend, show ¬ 31 < w by omega, if_false]
  rfl

theorem toInt_signExtend_le {w k : Nat} (h : w ≤ k) (v : BitVec w) : (v.signExtend k).toInt = v.toInt :=
  BitVec.toInt_signExtend_of_le h

theorem signExtend_eq_zero {w k : Nat} (h : w ≤ k) (v : BitVec w) : v.signExtend k = 0#k ↔ v = 0#w := by
  rw [← BitVec.toInt_inj, toInt_signExtend_le h, BitVec.toInt_zero, ← BitVec.toInt_inj, BitVec.toInt_zero]

/-! Logic-style flags. -/

theorem logicResult_eq (r : Long) (f : Flags) :
    logicResult r f = (r, ⟨f.x, r.getLsbD 31, decide (r = 0#32), false, false⟩) := rfl

/-! EXT. -/

/-- The low word of a sign-extended byte is the byte extended to a word. -/
theorem byte_sext_low (d : Long) : (Size.byte.sext d).setWidth 16 = (d.extractLsb' 0 8).signExtend 16 := by
  refine BitVec.eq_of_getLsbD_eq fun i hi => ?_
  simp only [Size.sext, BitVec.getLsbD_setWidth, BitVec.getLsbD_signExtend, BitVec.msb_eq_getLsbD_last, hi,
    BitVec.getLsbD_extractLsb', show i < 32 by omega, decide_true, Bool.true_and, Nat.zero_add]

theorem byte_sext_word_zero (d : Long) :
    Size.word.trunc (Size.byte.sext d) = 0#32 ↔ d.extractLsb' 0 8 = 0#8 := by
  have hz (w : Word) : w.setWidth 32 = 0#32 ↔ w = 0#16 := by
    rw [← BitVec.toNat_inj, ← BitVec.toNat_inj, BitVec.toNat_setWidth]
    simp only [BitVec.toNat_ofNat]
    omega
  rw [Size.trunc, hz, byte_sext_low, signExtend_eq_zero (by decide)]

/-- Bit 15 of a sign-extended byte is its sign. -/
theorem byte_sext_bit15 (d : Long) : Size.word.msb (Size.byte.sext d) = d.getLsbD 7 := by
  simp only [Size.msb, Size.sext, BitVec.getLsbD_signExtend, BitVec.msb_eq_getLsbD_last, BitVec.getLsbD_setWidth]
  rfl

/-! SWAP. -/

theorem swap_eq_rotateLeft (d : Long) : d.extractLsb' 0 16 ++ d.extractLsb' 16 16 = d.rotateLeft 16 := by
  refine BitVec.eq_of_getLsbD_eq fun i hi => ?_
  simp only [BitVec.getLsbD_append, BitVec.getLsbD_extractLsb', BitVec.getLsbD_rotateLeft]
  by_cases h : i < 16
  · simp [h]
  · simp [h, hi, show i - 16 < 16 by omega]

theorem rotateLeft_sixteen_twice (d : Long) : (d.rotateLeft 16).rotateLeft 16 = d := by
  refine BitVec.eq_of_getLsbD_eq fun i hi => ?_
  simp only [BitVec.getLsbD_rotateLeft]
  by_cases h : i < 16
  · simp [h, show ¬ 16 + i < 16 by omega, show 16 + i < 32 by omega]
  · simp [h, hi, show i - 16 < 16 by omega, show 16 + (i - 16) = i by omega]

theorem rotateLeft_sixteen_eq_zero (d : Long) : d.rotateLeft 16 = 0#32 ↔ d = 0#32 := by
  refine ⟨fun h => ?_, fun h => by rw [h]; rfl⟩
  rw [← rotateLeft_sixteen_twice d, h]
  rfl

theorem rotateLeft_sixteen_sign (d : Long) : (d.rotateLeft 16).getLsbD 31 = d.getLsbD 15 := by
  rw [BitVec.getLsbD_rotateLeft]
  simp

/-! NOT. -/

theorem not_eq_zero_iff (d : Long) : ~~~d = 0#32 ↔ d = 0xFFFFFFFF#32 := by
  constructor
  · intro h
    rw [← BitVec.not_not (b := d), h]
    rfl
  · rintro rfl
    rfl

/-! The subtraction from zero of NEG and NEGX. -/

theorem bit_ofNat (x : Bool) : BitVec.ofNat 32 (bitNat x) = if x then 1#32 else 0#32 := by cases x <;> rfl

theorem subResult_from_zero (d : Long) (x : Bool) :
    subResult .long 0#32 d x = -d - (if x then 1#32 else 0#32) := by
  rw [subResult, bit_ofNat]
  simp [Size.trunc]

theorem subResult_neg (d : Long) : subResult .long 0#32 d false = -d := by
  rw [subResult_from_zero]
  simp

theorem subBorrow_from_zero (d : Long) (x : Bool) : subBorrow .long 0#32 d x = (decide (d ≠ 0#32) || x) := by
  have hd : d ≠ 0#32 ↔ 0 < Size.long.u d := by
    rw [ne_eq, ← BitVec.toNat_inj]
    change ¬ d.toNat = 0 ↔ 0 < d.toNat
    omega
  rw [Bool.eq_iff_iff, subBorrow_iff, Size.u_zero, Bool.or_eq_true, decide_eq_true_iff, hd]
  cases x <;> simp only [bitNat] <;> simp

theorem subOverflow_from_zero (d : Long) (x : Bool) :
    subOverflow .long 0#32 d x = (decide (d = 0x80000000#32) && !x) := by
  have hd : d = 0x80000000#32 ↔ Size.long.u d = 2 ^ 31 := by
    rw [← BitVec.toNat_inj]
    rfl
  have hlt := Size.long.u_lt d
  rw [Bool.eq_iff_iff, subOverflow_iff, Size.i_zero, Size.i_eq, Bool.and_eq_true, decide_eq_true_iff, hd]
  cases x <;> simp only [bitNat, Size.bits] at * <;> simp <;> omega

theorem Flags.sub_from_zero (d : Long) :
    Flags.sub .long 0#32 d = ⟨decide (-d ≠ 0#32), (-d).getLsbD 31, decide (-d = 0#32), decide (d = 0x80000000#32),
      decide (-d ≠ 0#32)⟩ := by
  have hc := subBorrow_from_zero d false
  have hv := subOverflow_from_zero d false
  simp only [Bool.or_false] at hc
  simp only [Bool.not_false, Bool.and_true] at hv
  simp only [Flags.sub, subResult_neg, hc, hv, Size.msb, ne_eq, BitVec.neg_eq_zero_iff]

theorem Flags.subx_from_zero (d : Long) (f : Flags) :
    Flags.subx 0#32 d f = ⟨decide (d ≠ 0#32) || f.x, (-d - (if f.x then 1#32 else 0#32)).getLsbD 31,
      f.z && decide (-d - (if f.x then 1#32 else 0#32) = 0#32), decide (d = 0x80000000#32) && !f.x,
      decide (d ≠ 0#32) || f.x⟩ := by
  simp only [Flags.subx, subResult_from_zero, subBorrow_from_zero, subOverflow_from_zero]

/-! One data register. -/

theorem exec_moveq (d8 : Byte) (dx : Fin 8) (s : State) :
    exec (.moveq d8 dx) s =
      .next (((s.setD dx (d8.signExtend 32)).setFlags ⟨s.flags.x, d8.getLsbD 7, decide (d8 = 0#8), false, false⟩).advanced
        1) := by
  have hn : (d8.signExtend 32).getLsbD 31 = d8.getLsbD 7 := signExtend_sign (by decide) d8
  have hz : decide (d8.signExtend 32 = 0#32) = decide (d8 = 0#8) := decide_eq_decide.mpr (signExtend_eq_zero (by decide) d8)
  rw [← hn, ← hz]
  rfl

theorem exec_not (dx : Fin 8) (s : State) :
    exec (.not dx) s =
      .next (((s.setD dx (~~~s.getD dx)).setFlags
        ⟨s.flags.x, !(s.getD dx).getLsbD 31, decide (s.getD dx = 0xFFFFFFFF#32), false, false⟩).advanced 1) := by
  have hn : (~~~s.getD dx).getLsbD 31 = !(s.getD dx).getLsbD 31 := by rw [BitVec.getLsbD_not]; rfl
  rw [← hn, ← decide_eq_decide.mpr (not_eq_zero_iff (s.getD dx))]
  rfl

theorem exec_swap (dx : Fin 8) (s : State) :
    exec (.swap dx) s =
      .next (((s.setD dx ((s.getD dx).rotateLeft 16)).setFlags
        ⟨s.flags.x, (s.getD dx).getLsbD 15, decide (s.getD dx = 0#32), false, false⟩).advanced 1) := by
  refine (finish_modifyD dx (fun d f => logicResult (d.extractLsb' 0 16 ++ d.extractLsb' 16 16) f) s).trans ?_
  simp only [swap_eq_rotateLeft, logicResult_eq, rotateLeft_sixteen_sign, rotateLeft_sixteen_eq_zero]

theorem exec_extW (dx : Fin 8) (s : State) :
    exec (.extW dx) s =
      .next (((s.setD dx (Size.word.merge (s.getD dx) (Size.byte.sext (s.getD dx)))).setFlags
        ⟨s.flags.x, (s.getD dx).getLsbD 7, decide ((s.getD dx).extractLsb' 0 8 = 0#8), false, false⟩).advanced 1) := by
  rw [← byte_sext_bit15, ← decide_eq_decide.mpr (byte_sext_word_zero (s.getD dx))]
  rfl

/-- Settles O19: the next state of each, and what its register holds. -/
theorem registerResults : Obligations.RegisterResults := by
  intro dx s
  refine ⟨fun d8 => exec_moveq d8 dx s, exec_not dx s, exec_swap dx s, ⟨_, exec_extW dx s, ?_, ?_⟩, ⟨_, rfl, ?_⟩,
    ⟨_, rfl, ?_⟩, ⟨_, rfl, ?_, ?_, ?_⟩, ⟨_, ?_, rfl⟩, ⟨_, ?_, rfl⟩⟩
  · exact Size.word_merge_high _ _
  · rw [Size.word_merge_low, byte_sext_low, toInt_signExtend_le (by decide)]
  · exact (toInt_signExtend_le (by decide) _).trans (by rw [BitVec.setWidth_eq_extractLsb' (by decide)])
  · exact (toInt_signExtend_le (by decide) _).trans (by rw [BitVec.setWidth_eq_extractLsb' (by decide)])
  · intro hv
    simp only [logicResult, satsResult, hv, Bool.false_eq_true, if_false]
  · intro hv hd
    simp only [logicResult, satsResult, hv, hd, if_true, Bool.false_eq_true, if_false]
  · intro hv hd
    simp only [logicResult, satsResult, hv, hd, if_true]
  · rw [← Flags.sub_from_zero, ← subResult_neg]
    rfl
  · rw [← Flags.subx_from_zero, ← subResult_from_zero]
    rfl

/-! ADDX and SUBX. -/

theorem sticky_zero (z : Bool) (r : Long) : (z && decide (r = 0#32)) = if r = 0#32 then z else false := by
  split <;> simp [*]

/-- Settles O20: result, carry and overflow with X, the two bits together by the formulas of R29. -/
theorem extendedArithmetic : Obligations.ExtendedArithmetic := by
  intro dy dx s
  refine ⟨⟨addResult .long (s.getD dx) (s.getD dy) s.flags.x, addCarry .long (s.getD dx) (s.getD dy) s.flags.x,
      addOverflow .long (s.getD dx) (s.getD dy) s.flags.x, ?_, ?_, addCarry_iff _ _ _ _, ?_⟩,
    ⟨subResult .long (s.getD dx) (s.getD dy) s.flags.x, subBorrow .long (s.getD dx) (s.getD dy) s.flags.x,
      subOverflow .long (s.getD dx) (s.getD dy) s.flags.x, ?_, ?_, subBorrow_iff _ _ _ _, ?_⟩⟩
  · rw [← sticky_zero]
    rfl
  · rw [← bit_ofNat]
    rfl
  · exact congrArg Prod.swap (addBits_eq .long (s.getD dx) (s.getD dy) s.flags.x)
  · rw [← sticky_zero]
    rfl
  · rw [← bit_ofNat]
    rfl
  · exact congrArg Prod.swap (subBits_eq .long (s.getD dx) (s.getD dy) s.flags.x)

/-! Scc. -/

/-- Settles O24: a byte written to a data register keeps the upper bits. -/
theorem setOnCondition : Obligations.SetOnCondition := by
  intro c dx s
  refine ⟨_, rfl, ?_, BitVec.extractLsb'_append_eq_left⟩
  refine BitVec.extractLsb'_append_eq_right.trans ?_
  split <;> rfl

end Sys2Proof.Machine
end

section
/-! PROOFS. The instructions with a source or destination operand complete (spec 43_integer_arithmetic.md, 44_logical.md,
42_program_control.md R191): arithmetic, logic, compares, multiplies and divides. -/

namespace Sys2Proof.Machine

-- One theorem after another: elaborating them side by side takes a thread each, and no less time.
set_option Elab.async false

/-! The operations. -/

theorem addOp_eq (v d : Long) (f : Flags) : addOp v d f = (d + v, Flags.add .long d v) := by
  rw [addOp, addResult_false]
  rfl

theorem subOp_eq (v d : Long) (f : Flags) : subOp v d f = (d - v, Flags.sub .long d v) := by
  rw [subOp, subResult_false]
  rfl

theorem quickData_eq (q : Fin 8) : quickData q = if q = 0 then 8#32 else BitVec.ofNat 32 q.val := by
  fin_cases q <;> rfl

theorem eorOp_eq (v d : Long) (f : Flags) :
    eorOp v d f = (d ^^^ v, ⟨f.x, (d ^^^ v).getLsbD 31, decide (d = v), false, false⟩) := by
  have hz : decide (d = v) = decide (d ^^^ v = 0#32) := decide_eq_decide.mpr BitVec.xor_eq_zero_iff.symm
  rw [hz]
  rfl

/-! Whole instructions. -/

/-- A longword source to a data register. -/
theorem finish_eaToD {src : Ea} {s : State} (h : sourceReady .long 1 src s = true) (n : Fin 8)
    (f : Long → Long → Flags → Long × Flags) :
    finish s (eaToD src n f s) =
      .next ((((eaUpdate .long src s).setD n (f (sourceValue .long src s) (s.getD n) s.flags).1).setFlags
        (f (sourceValue .long src s) (s.getD n) s.flags).2).advanced (1 + eaWords .long src)) :=
  finish_sourceToD h _ n f

/-- A longword immediate to a data register. -/
theorem finish_immToD {s : State} (h : extReady 1 2 s = true) (v : Long) (n : Fin 8)
    (f : Long → Long → Flags → Long × Flags) :
    finish s (immToD v n f s) =
      .next (((s.setD n (f v (s.getD n) s.flags).1).setFlags (f v (s.getD n) s.flags).2).advanced 3) := by
  rw [immToD, fetchExt_ok 1 2 s h]
  rfl

/-- A longword to a destination, which is read and written back. -/
theorem finish_toEa {dst : Ea} {s : State} (hm : ∀ n, dst ≠ .areg n) (h : modifyReady .long 1 dst s = true) (v : Long)
    (f : Long → Long → Flags → Long × Flags) :
    finish s (toEa v dst f s) =
      .next (((written .long dst (f v (sourceValue .long dst s) s.flags).1 s).setFlags
        (f v (sourceValue .long dst s) s.flags).2).advanced (1 + eaWords .long dst)) := by
  rw [toEa, modifyEa_ok .long 1 dst (f v) s hm h]
  rfl

/-- A source operand of an instruction with a second word of its own. -/
theorem finish_longSourceToD {src : Ea} {s : State} (he : extReady 1 1 s = true) (h : sourceReady .long 2 src s = true)
    (n : Fin 8) (f : Long → Long → Flags → Long × Flags) :
    finish s (longSourceToD src n f s) =
      .next ((((eaUpdate .long src s).setD n (f (sourceValue .long src s) (s.getD n) s.flags).1).setFlags
        (f (sourceValue .long src s) (s.getD n) s.flags).2).advanced (2 + eaWords .long src)) := by
  rw [longSourceToD, fetchExt_ok 1 1 s he, Res.bind_ok, sourceToD_ok .long 2 src n f s h]
  rfl

/-- Settles O26: the operation of the source on the register. -/
theorem sourceToRegister : Obligations.SourceToRegister := by
  intro src dx s h d v result
  refine ⟨?_, ?_, finish_eaToD h dx andOp, finish_eaToD h dx orOp⟩
  · refine (finish_eaToD h dx addOp).trans ?_
    rw [addOp_eq]
  · refine (finish_eaToD h dx subOp).trans ?_
    rw [subOp_eq]

/-- Settles O27: the operation of the immediate on the register. -/
theorem immediateToRegister : Obligations.ImmediateToRegister := by
  intro v dx s h d result
  refine ⟨?_, ?_, finish_immToD h v dx andOp, finish_immToD h v dx orOp, ?_⟩
  · refine (finish_immToD h v dx addOp).trans ?_
    rw [addOp_eq]
  · refine (finish_immToD h v dx subOp).trans ?_
    rw [subOp_eq]
  · refine (finish_immToD h v dx eorOp).trans ?_
    rw [eorOp_eq]

theorem exec_addq {ea : Ea} (h : ∀ n, ea ≠ .areg n) (q : Fin 8) (s : State) :
    exec (.addq q ea) s = finish s (toEa (quickData q) ea addOp s) := by
  cases ea <;> first | rfl | exact absurd rfl (h _)

theorem exec_subq {ea : Ea} (h : ∀ n, ea ≠ .areg n) (q : Fin 8) (s : State) :
    exec (.subq q ea) s = finish s (toEa (quickData q) ea subOp s) := by
  cases ea <;> first | rfl | exact absurd rfl (h _)

theorem ne_areg_of_dataAlterable {ea : Ea} (h : ea.dataAlterable = true) (n : Fin 8) : ea ≠ .areg n := by
  rintro rfl
  cases h

/-- Settles O28: the destination is read, and the operation's result written back; an address register is no operand of the flags. -/
theorem registerToDestination : Obligations.RegisterToDestination := by
  intro dy q dst s d v k result logic
  refine ⟨fun h hd => ?_, fun h hd => ?_, fun ax => ?_⟩
  · have hm := ne_areg_of_dataAlterable (dataAlterable_of_memoryAlterable hd)
    refine ⟨(finish_toEa hm h v addOp).trans ?_, (finish_toEa hm h v subOp).trans ?_, finish_toEa hm h v andOp,
      finish_toEa hm h v orOp⟩
    · rw [addOp_eq]
    · rw [subOp_eq]
  · have hm := ne_areg_of_dataAlterable hd
    have hk : quickData q = k := quickData_eq q
    refine ⟨finish_toEa hm h v eorOp, ?_, ?_⟩
    · rw [exec_addq hm, hk, finish_toEa hm h, addOp_eq]
    · rw [exec_subq hm, hk, finish_toEa hm h, subOp_eq]
  · rw [show k = quickData q from (quickData_eq q).symm]
    exact ⟨rfl, rfl⟩

/-! Compares and tests. -/

theorem exec_cmp {sz : Size} {src : Ea} {s : State} (h : sourceReady sz 1 src s = true) (x : Fin 8) :
    exec (.cmp sz src x) s = .next (((eaUpdate sz src s).setFlags
      { Flags.sub sz (s.getD x) (sourceValue sz src s) with x := s.flags.x }).advanced (1 + eaWords sz src)) := by
  refine (finish_readEa h _ fun v s => s.setFlags (Flags.cmp sz (s.getD x) v s.flags)).trans ?_
  rw [eaUpdate_getD, eaUpdate_flags]
  rfl

theorem finish_cmpaOp {sz : Size} {src : Ea} {s : State} (h : sourceReady sz 1 src s = true) (x : Fin 8) :
    finish s (cmpaOp sz src x s) = .next (((eaUpdate sz src s).setFlags
      { Flags.sub .long ((eaUpdate sz src s).getA x) (sz.sext (sourceValue sz src s)) with x := s.flags.x }).advanced
        (1 + eaWords sz src)) := by
  refine (finish_readEa h _ fun v s => s.setFlags (Flags.cmp .long (s.getA x) (sz.sext v) s.flags)).trans ?_
  rw [eaUpdate_flags]
  rfl

theorem exec_tst {sz : Size} {src : Ea} {s : State} (h : sourceReady sz 1 src s = true) :
    exec (.tst sz src) s = .next (((eaUpdate sz src s).setFlags (Flags.moveStyle sz (sourceValue sz src s) s.flags)).advanced
      (1 + eaWords sz src)) := by
  refine (finish_readEa h _ fun v s => s.setFlags (Flags.moveStyle sz v s.flags)).trans ?_
  rw [eaUpdate_flags]

/-- Settles O29: the source comes to its value, and the flags alone are written. -/
theorem compareAndTest : Obligations.CompareAndTest := by
  intro sz src x s
  refine ⟨fun h => ⟨exec_cmp h x, exec_tst h, finish_readEa h _ fun _ s => s⟩, fun h => finish_cmpaOp h x,
    fun h => finish_cmpaOp h x, fun v h => ?_⟩
  change finish s ((fetchExt 1 (eaWords sz (.imm v)) s).bind _) = _
  rw [fetchExt_ok _ _ _ h]
  rfl

/-! Multiplies. -/

theorem Size.word_u_lt (v : Long) : Size.word.u v < 65536 := Size.word.u_lt v

theorem toNat_word_product (v d : Long) :
    (BitVec.ofNat 32 (Size.word.u v * Size.word.u d)).toNat = Size.word.u v * Size.word.u d := by
  have h : Size.word.u v * Size.word.u d < 2 ^ 16 * 2 ^ 16 := Nat.mul_lt_mul'' (Size.word_u_lt v) (Size.word_u_lt d)
  rw [BitVec.toNat_ofNat]
  exact Nat.mod_eq_of_lt h

theorem Size.word_i_bounds (v : Long) : -32768 ≤ Size.word.i v ∧ Size.word.i v ≤ 32767 := by
  have := Size.word.u_lt v
  rw [Size.i_eq]
  simp only [Size.bits] at *
  omega

theorem toInt_word_product (v d : Long) :
    (BitVec.ofInt 32 (Size.word.i v * Size.word.i d)).toInt = Size.word.i v * Size.word.i d := by
  have hv := Size.word_i_bounds v
  have hd := Size.word_i_bounds d
  have habs : |Size.word.i v * Size.word.i d| ≤ 32768 * 32768 := by
    rw [abs_mul]
    exact mul_le_mul (abs_le.mpr ⟨hv.1, by omega⟩) (abs_le.mpr ⟨hd.1, by omega⟩) (abs_nonneg _) (by decide)
  have := abs_le.mp habs
  exact BitVec.toInt_ofInt_eq_self (by decide) (by omega) (by omega)

theorem ofNat_long_product (v d : Long) : BitVec.ofNat 32 (Size.long.u v * Size.long.u d) = v * d := by
  rw [BitVec.ofNat_mul]
  simp [Size.u, Size.trunc]

theorem ofInt_long_product (v d : Long) : BitVec.ofInt 32 (Size.long.i v * Size.long.i d) = v * d := by
  rw [BitVec.ofInt_mul]
  simp [Size.i, Size.sext]

/-- Settles O30: word products fit 32 bits, longword products are the products of 32-bit words. -/
theorem multiply : Obligations.Multiply := by
  intro src dx s result
  refine ⟨fun h => ⟨⟨_, finish_sourceToD h _ dx _, toNat_word_product _ _⟩,
    ⟨_, finish_sourceToD h _ dx _, toInt_word_product _ _⟩⟩, fun he h => ⟨?_, ?_⟩⟩
  · refine (finish_longSourceToD he h dx _).trans ?_
    simp only [ofNat_long_product, logicResult_eq, result]
  · refine (finish_longSourceToD he h dx _).trans ?_
    simp only [ofInt_long_product, logicResult_eq, result]

end Sys2Proof.Machine
end

section
/-! PROOFS. The divides (spec 43_integer_arithmetic.md R223 to R226, R237 to R239): quotient and remainder, the quotients that fit, and
the zero divisor. -/

namespace Sys2Proof.Machine

-- One theorem after another: elaborating them side by side takes a thread each, and no less time.
set_option Elab.async false

/-! The end of a divide. -/

theorem finish_divEnd_fits (s0 : State) {o : Bool} (h : o = false) (dw : Fin 8) (r : Long) (f : Flags) (n : Nat) (s : State) :
    finish s0 (divEnd o dw r f n s) = .next (((s.setD dw r).setFlags f).advanced n) := by
  subst h
  rfl

theorem finish_divEnd_overflows (s0 : State) {o : Bool} (h : o = true) (dw : Fin 8) (r : Long) (f : Flags) (n : Nat)
    (s : State) :
    finish s0 (divEnd o dw r f n s) = .next ((s.setFlags ⟨s.flags.x, false, false, true, false⟩).advanced n) := by
  subst h
  rfl

/-! The two operands. -/

/-- The words of a divide come to its two operands, and a zero divisor raises. -/
theorem finish_divideWord {src : Ea} {s : State} (h : sourceReady .word 1 src s = true) (k : Long → State → Res Unit) :
    finish s ((readEa .word 1 src s).bind fun v s =>
      if Size.word.u v = 0 then .raise .divideByZero s else k v s) =
    if Size.word.u (sourceValue .word src s) = 0 then .next (enter 5#8 s.pc 0#4 none s)
    else finish s (k (sourceValue .word src s) (eaUpdate .word src s)) := by
  rw [readEa_ok .word 1 src s h, Res.bind_ok]
  split <;> rfl

theorem finish_divideLong {src : Ea} {s : State} (he : extReady 1 1 s = true) (h : sourceReady .long 2 src s = true)
    (k : Long → State → Res Unit) :
    finish s ((fetchExt 1 1 s).bind fun _ s => (readEa .long 2 src s).bind fun v s =>
      if Size.long.u v = 0 then .raise .divideByZero s else k v s) =
    if sourceValue .long src s = 0#32 then .next (enter 5#8 s.pc 0#4 none s)
    else finish s (k (sourceValue .long src s) (eaUpdate .long src s)) := by
  rw [fetchExt_ok 1 1 s he, Res.bind_ok, readEa_ok .long 2 src s h, Res.bind_ok]
  simp only [← Size.trunc_eq_zero]
  split <;> rename_i hz
  · exact (if_pos (c := sourceValue .long src s = 0#32) hz).symm
  · exact (if_neg (c := sourceValue .long src s = 0#32) hz).symm

/-- Settles O33: the divisor is zero, and the exception is entered from the state the divide started in. -/
theorem divideByZero : Obligations.DivideByZero := by
  intro src dw dx s
  refine ⟨fun h hz => ⟨?_, ?_⟩, fun he h hz => ⟨?_, ?_, ?_, ?_⟩⟩
  · exact (finish_divideWord h _).trans (if_pos hz)
  · exact (finish_divideWord h _).trans (if_pos hz)
  · exact (finish_divideLong he h _).trans (if_pos hz)
  · exact (finish_divideLong he h _).trans (if_pos hz)
  · exact (finish_divideLong he h _).trans (if_pos hz)
  · exact (finish_divideLong he h _).trans (if_pos hz)

/-! Truncated division. -/

/-- The remainder is smaller than the divisor and has the sign of the dividend (R237). -/
theorem tmod_spec {v : Int} (d : Int) (h : v ≠ 0) :
    d = d.tdiv v * v + d.tmod v ∧ (d.tmod v).natAbs < v.natAbs ∧ 0 ≤ d.tmod v * d := by
  refine ⟨(Int.tdiv_mul_add_tmod d v).symm, ?_, ?_⟩
  · rw [Int.natAbs_tmod]
    exact Nat.mod_lt _ (Int.natAbs_pos.mpr h)
  · rcases le_total 0 d with hd | hd
    · exact mul_nonneg (Int.tmod_nonneg v hd) hd
    · have hr : 0 ≤ -d.tmod v := Int.neg_tmod d v ▸ Int.tmod_nonneg v (Int.neg_nonneg.mpr hd)
      exact mul_nonneg_of_nonpos_of_nonpos (Int.neg_nonneg.mp hr) hd

/-! A quotient that fits describes the flags. -/

theorem Size.i_ne_zero {sz : Size} {v : Long} (h : sz.u v ≠ 0) : sz.i v ≠ 0 := by
  rwa [ne_eq, ← sz.i_zero, sz.i_inj, sz.u_zero]

theorem u_ofNat {sz : Size} {q : Nat} (h : q < 2 ^ sz.bits) : sz.u (BitVec.ofNat 32 q) = q := by
  rw [Size.u_eq, BitVec.toNat_ofNat]
  cases sz <;> simp only [Size.bits] at * <;> omega

theorem divFlags_ofNat {sz : Size} {q : Nat} (h : q < 2 ^ sz.bits) (f : Flags) :
    divFlags sz (BitVec.ofNat 32 q) f = ⟨f.x, decide (2 ^ (sz.bits - 1) ≤ q), decide (q = 0), false, false⟩ := by
  have hn : sz.msb (BitVec.ofNat 32 q) = decide (2 ^ (sz.bits - 1) ≤ q) := by
    rw [Bool.eq_iff_iff, decide_eq_true_iff, sz.msb_iff, u_ofNat h]
  have hz : decide (sz.trunc (BitVec.ofNat 32 q) = 0#32) = decide (q = 0) :=
    decide_eq_decide.mpr (by rw [sz.trunc_eq_zero, u_ofNat h])
  rw [divFlags, hn, hz]

theorem i_ofInt {sz : Size} {q : Int} (h : sz.inRange q = true) : sz.i (BitVec.ofInt 32 q) = q := by
  rw [inRange_iff] at h
  rw [Size.i_eq, Size.u_eq, BitVec.toNat_ofInt]
  cases sz <;> simp only [Size.bits] at * <;> omega

theorem divFlags_ofInt {sz : Size} {q : Int} (h : sz.inRange q = true) (f : Flags) :
    divFlags sz (BitVec.ofInt 32 q) f = ⟨f.x, decide (q < 0), decide (q = 0), false, false⟩ := by
  have hi := i_ofInt h
  have hlt := sz.u_lt (BitVec.ofInt 32 q)
  have hn : sz.msb (BitVec.ofInt 32 q) = decide (q < 0) := by
    rw [Size.i_eq] at hi
    rw [Bool.eq_iff_iff, decide_eq_true_iff, sz.msb_iff]
    cases sz <;> simp only [Size.bits] at * <;> omega
  have hz : decide (sz.trunc (BitVec.ofInt 32 q) = 0#32) = decide (q = 0) :=
    decide_eq_decide.mpr (by rw [sz.trunc_eq_zero, ← sz.u_zero, ← sz.i_inj, hi, sz.i_zero])
  rw [divFlags, hn, hz]

/-- Remainder and quotient in the two halves of the register. -/
theorem halves_ofNat {q r : Nat} (hq : q < 2 ^ 16) (hr : r < 2 ^ 16) :
    BitVec.ofNat 16 r ++ BitVec.ofNat 16 q = BitVec.ofNat 32 (r * 2 ^ 16 + q) := by
  refine BitVec.eq_of_toNat_eq ?_
  rw [BitVec.toNat_append, BitVec.toNat_ofNat, BitVec.toNat_ofNat, BitVec.toNat_ofNat, Nat.mod_eq_of_lt hr,
    Nat.mod_eq_of_lt hq, ← Nat.shiftLeft_add_eq_or_of_lt hq, Nat.shiftLeft_eq]
  omega

/-! The word divides. -/

theorem exec_divuW {src : Ea} {dx : Fin 8} {s : State} (h : sourceReady .word 1 src s = true)
    (hv : Size.word.u (sourceValue .word src s) ≠ 0) :
    exec (.divuW src dx) s =
      finish s (divEnd (decide (0xFFFF < (s.getD dx).toNat / Size.word.u (sourceValue .word src s))) dx
        (BitVec.ofNat 16 ((s.getD dx).toNat % Size.word.u (sourceValue .word src s)) ++
          BitVec.ofNat 16 ((s.getD dx).toNat / Size.word.u (sourceValue .word src s)))
        (divFlags .word (BitVec.ofNat 32 ((s.getD dx).toNat / Size.word.u (sourceValue .word src s))) s.flags)
        (1 + eaWords .word src) (eaUpdate .word src s)) := by
  refine ((finish_divideWord h _).trans (if_neg hv)).trans ?_
  rw [eaUpdate_getD, eaUpdate_flags]
  rfl

theorem exec_divsW {src : Ea} {dx : Fin 8} {s : State} (h : sourceReady .word 1 src s = true)
    (hv : Size.word.u (sourceValue .word src s) ≠ 0) :
    exec (.divsW src dx) s =
      finish s (divEnd (!Size.word.inRange ((s.getD dx).toInt.tdiv (Size.word.i (sourceValue .word src s)))) dx
        (BitVec.ofInt 16 ((s.getD dx).toInt.tmod (Size.word.i (sourceValue .word src s))) ++
          BitVec.ofInt 16 ((s.getD dx).toInt.tdiv (Size.word.i (sourceValue .word src s))))
        (divFlags .word (BitVec.ofInt 32 ((s.getD dx).toInt.tdiv (Size.word.i (sourceValue .word src s)))) s.flags)
        (1 + eaWords .word src) (eaUpdate .word src s)) := by
  refine ((finish_divideWord h _).trans (if_neg hv)).trans ?_
  rw [eaUpdate_getD, eaUpdate_flags]
  rfl

/-- Settles O31: quotient and remainder of the numbers; the quotient that fits 16 bits is stored, and the other overflows. -/
theorem divideWord : Obligations.DivideWord := by
  intro src dx s h hv base k
  refine ⟨⟨_, _, (Nat.div_add_mod' (s.getD dx).toNat _).symm, Nat.mod_lt _ (Nat.pos_of_ne_zero hv), fun hq => ?_, fun hq => ?_⟩,
    ?_⟩
  · have hr := (Nat.mod_lt (s.getD dx).toNat (Nat.pos_of_ne_zero hv)).trans (Size.word_u_lt _)
    rw [exec_divuW h hv, finish_divEnd_fits s (decide_eq_false (by omega)), divFlags_ofNat (sz := .word) hq,
      halves_ofNat hq hr]
    rfl
  · rw [exec_divuW h hv, finish_divEnd_overflows s (decide_eq_true (by omega)), eaUpdate_flags]
  · obtain ⟨hd, hr, hs⟩ := tmod_spec (s.getD dx).toInt (Size.i_ne_zero hv)
    refine ⟨_, _, hd, hr, hs, fun hq => ?_, fun hq => ?_⟩
    · have hin := (inRange_iff .word _).mpr hq
      rw [exec_divsW h hv, finish_divEnd_fits s (by rw [hin]; rfl), divFlags_ofInt hin]
    · have hout : Size.word.inRange ((s.getD dx).toInt.tdiv (Size.word.i (sourceValue .word src s))) = false := by
        rw [← Bool.not_eq_true, inRange_iff]
        simp only [Size.bits]
        omega
      rw [exec_divsW h hv, finish_divEnd_overflows s (by rw [hout]; rfl), eaUpdate_flags]

/-! The longword divides. -/

theorem finish_divuLongOp {src : Ea} {dx dw : Fin 8} {k : Nat → Nat → Nat} {s : State} (he : extReady 1 1 s = true)
    (h : sourceReady .long 2 src s = true) (hv : sourceValue .long src s ≠ 0#32) :
    finish s (divuLongOp src dx dw k s) =
      .next ((((eaUpdate .long src s).setD dw (BitVec.ofNat 32 (k ((s.getD dx).toNat / (sourceValue .long src s).toNat)
        ((s.getD dx).toNat % (sourceValue .long src s).toNat)))).setFlags
          ⟨s.flags.x, decide (2 ^ 31 ≤ (s.getD dx).toNat / (sourceValue .long src s).toNat),
            decide ((s.getD dx).toNat / (sourceValue .long src s).toNat = 0), false, false⟩).advanced
              (2 + eaWords .long src)) := by
  have hq : (s.getD dx).toNat / (sourceValue .long src s).toNat < 2 ^ Size.long.bits :=
    (Nat.div_le_self _ _).trans_lt (s.getD dx).isLt
  refine ((finish_divideLong he h _).trans (if_neg hv)).trans ?_
  rw [eaUpdate_getD, eaUpdate_flags]
  refine (finish_divEnd_fits s rfl _ _ _ _ _).trans ?_
  have hf := divFlags_ofNat hq s.flags
  exact congrArg (fun f => Host.Outcome.next (State.advanced _ (State.setFlags _ f))) hf

theorem finish_divsLongOp {src : Ea} {dx dw : Fin 8} {k : Int → Int → Int} {s : State} (he : extReady 1 1 s = true)
    (h : sourceReady .long 2 src s = true) (hv : sourceValue .long src s ≠ 0#32) :
    finish s (divsLongOp src dx dw k s) =
      finish s (divEnd (!Size.long.inRange ((s.getD dx).toInt.tdiv (sourceValue .long src s).toInt)) dw
        (BitVec.ofInt 32 (k ((s.getD dx).toInt.tdiv (sourceValue .long src s).toInt)
          ((s.getD dx).toInt.tmod (sourceValue .long src s).toInt)))
        (divFlags .long (BitVec.ofInt 32 ((s.getD dx).toInt.tdiv (sourceValue .long src s).toInt)) s.flags)
        (2 + eaWords .long src) (eaUpdate .long src s)) := by
  refine ((finish_divideLong he h _).trans (if_neg hv)).trans ?_
  rw [eaUpdate_getD, eaUpdate_flags]
  rfl

/-- Only the least number divided by -1 has a quotient outside 32 bits. -/
theorem long_quotient_inRange {d v : Long} (h : ¬(d = 0x80000000#32 ∧ v = 0xFFFFFFFF#32)) :
    Size.long.inRange (d.toInt.tdiv v.toInt) = true := by
  have hq : (d.sdiv v).toInt = d.toInt.tdiv v.toInt := by
    refine BitVec.toInt_sdiv_of_ne_or_ne d v ?_
    rcases not_and_or.mp h with h | h
    · exact .inl h
    · exact .inr h
  have hlo := BitVec.le_toInt (d.sdiv v)
  have hhi := BitVec.toInt_lt (x := d.sdiv v)
  rw [inRange_iff, ← hq]
  simp only [Size.bits]
  omega

theorem toInt_ne_zero {v : Long} (h : v ≠ 0#32) : v.toInt ≠ 0 := by
  rwa [ne_eq, ← BitVec.toInt_zero, BitVec.toInt_inj]

/-- A quotient of 32 bits is what the flags describe. -/
theorem divsLongOp_fits {src : Ea} {dx dw : Fin 8} {k : Int → Int → Int} {s : State} (he : extReady 1 1 s = true)
    (h : sourceReady .long 2 src s = true) (hv : sourceValue .long src s ≠ 0#32)
    (hne : ¬(s.getD dx = 0x80000000#32 ∧ sourceValue .long src s = 0xFFFFFFFF#32)) :
    finish s (divsLongOp src dx dw k s) =
      .next ((((eaUpdate .long src s).setD dw (BitVec.ofInt 32 (k ((s.getD dx).toInt.tdiv (sourceValue .long src s).toInt)
        ((s.getD dx).toInt.tmod (sourceValue .long src s).toInt)))).setFlags
          ⟨s.flags.x, decide ((s.getD dx).toInt.tdiv (sourceValue .long src s).toInt < 0),
            decide ((s.getD dx).toInt.tdiv (sourceValue .long src s).toInt = 0), false, false⟩).advanced
              (2 + eaWords .long src)) := by
  have hin := long_quotient_inRange hne
  rw [finish_divsLongOp he h hv, finish_divEnd_fits s (by rw [hin]; rfl), divFlags_ofInt hin]

theorem divsLongOp_overflows {src : Ea} {dx dw : Fin 8} {k : Int → Int → Int} {s : State} (he : extReady 1 1 s = true)
    (h : sourceReady .long 2 src s = true) (hv : sourceValue .long src s ≠ 0#32) (hmin : s.getD dx = 0x80000000#32)
    (hneg : sourceValue .long src s = 0xFFFFFFFF#32) :
    finish s (divsLongOp src dx dw k s) =
      .next (((eaUpdate .long src s).setFlags ⟨s.flags.x, false, false, true, false⟩).advanced
        (2 + eaWords .long src)) := by
  have hout : Size.long.inRange ((s.getD dx).toInt.tdiv (sourceValue .long src s).toInt) = false := by
    rw [hmin, hneg]
    decide
  rw [finish_divsLongOp he h hv, finish_divEnd_overflows s (by rw [hout]; rfl), eaUpdate_flags]

/-- Settles O32: an unsigned quotient always fits; a signed one does but for one pair of operands. -/
theorem divideLong : Obligations.DivideLong := by
  intro src dw dx s he h hv d v result
  have hpos : 0 < v.toNat := Nat.pos_of_ne_zero fun hz => hv (BitVec.eq_of_toNat_eq hz)
  obtain ⟨hd, hr, hs⟩ := tmod_spec d.toInt (toInt_ne_zero hv)
  exact ⟨⟨d.toNat / v.toNat, d.toNat % v.toNat, (Nat.div_add_mod' _ _).symm, Nat.mod_lt _ hpos,
      finish_divuLongOp he h hv, finish_divuLongOp he h hv⟩,
    ⟨_, _, hd, hr, hs, fun hne => ⟨divsLongOp_fits he h hv hne, divsLongOp_fits he h hv hne⟩,
      fun ⟨hmin, hneg⟩ => ⟨divsLongOp_overflows he h hv hmin hneg, divsLongOp_overflows he h hv hmin hneg⟩⟩⟩

end Sys2Proof.Machine
end

section
/-! PROOFS. The shifts in closed form (spec 45_shift.md R280 to R284). -/

namespace Sys2Proof.Machine

-- One theorem after another: elaborating them side by side takes a thread each, and no less time.
set_option Elab.async false

/-- A loop whose values have a closed form: the last bit shifted out is the last step's. -/
theorem shiftLoop_eq {step : ShiftStep} {closed : Nat → Long} (h : ∀ n, closed (n + 1) = (step (closed n)).2) (n k : Nat)
    (last : Option Bool) :
    shiftLoop step n (closed k) last =
      (closed (k + n), if n = 0 then last else some (step (closed (k + n - 1))).1) := by
  induction n generalizing k last with
  | zero => rfl
  | succ n ih =>
    rw [shiftLoop, ← h, ih (k + 1), show k + 1 + n = k + (n + 1) by omega, if_neg (Nat.succ_ne_zero n)]
    split
    · simp [*]
    · rfl

/-- A shift whose values and last bits have closed forms. -/
theorem finish_shiftOp {step : ShiftStep} {cnt : ShiftCount} {dx : Fin 8} {s : State} {closed : Nat → Long}
    {last : Nat → Bool} (h0 : closed 0 = s.getD dx) (h : ∀ n, closed (n + 1) = (step (closed n)).2)
    (hlast0 : last 0 = false) (hlast : ∀ n, last (n + 1) = (step (closed n)).1) :
    finish s (shiftOp step cnt dx s) =
      .next (((s.setD dx (closed (shiftCount cnt s))).setFlags
        ⟨if shiftCount cnt s = 0 then s.flags.x else last (shiftCount cnt s), (closed (shiftCount cnt s)).getLsbD 31,
          decide (closed (shiftCount cnt s) = 0#32), false, last (shiftCount cnt s)⟩).advanced 1) := by
  have hloop := shiftLoop_eq h (shiftCount cnt s) 0 none
  rw [shiftOp, ← h0, hloop, Nat.zero_add]
  refine (finish_modifyD dx _ s).trans ?_
  generalize shiftCount cnt s = n
  cases n with
  | zero => simp [shiftFlags, hlast0]
  | succ n => simp [shiftFlags, hlast]

theorem shiftLeftStep_value (v : Long) : (shiftLeftStep v).2 = v <<< 1 := by
  refine BitVec.eq_of_getLsbD_eq fun i hi => ?_
  simp only [shiftLeftStep, BitVec.getLsbD_append, BitVec.getLsbD_extractLsb', BitVec.getLsbD_shiftLeft]
  cases i with
  | zero => rfl
  | succ i => simp [show i < 31 by omega, hi]

theorem shiftRightLogicalStep_value (v : Long) : (shiftRightLogicalStep v).2 = v >>> 1 := by
  refine BitVec.eq_of_getLsbD_eq fun i hi => ?_
  simp only [shiftRightLogicalStep, BitVec.getLsbD_append, BitVec.getLsbD_extractLsb', BitVec.getLsbD_ushiftRight]
  by_cases h : i < 31
  · simp [h]
  · simp [h, show 1 + i = 32 by omega]

theorem shiftRightArithmeticStep_value (v : Long) : (shiftRightArithmeticStep v).2 = v.sshiftRight 1 := by
  refine BitVec.eq_of_getLsbD_eq fun i hi => ?_
  simp only [shiftRightArithmeticStep, BitVec.getLsbD_append, BitVec.getLsbD_extractLsb', BitVec.getLsbD_sshiftRight]
  by_cases h : i < 31
  · simp [h, hi, show 1 + i < 32 by omega]
  · simp [show i = 31 by omega, BitVec.msb_eq_getLsbD_last]

theorem finish_shiftLeft (cnt : ShiftCount) (dx : Fin 8) (s : State) :
    finish s (shiftOp shiftLeftStep cnt dx s) =
      .next (((s.setD dx (s.getD dx <<< shiftCount cnt s)).setFlags
        ⟨if shiftCount cnt s = 0 then s.flags.x else
            decide (1 ≤ shiftCount cnt s ∧ shiftCount cnt s ≤ 32) && (s.getD dx).getLsbD (32 - shiftCount cnt s),
          (s.getD dx <<< shiftCount cnt s).getLsbD 31, decide (s.getD dx <<< shiftCount cnt s = 0#32), false,
          decide (1 ≤ shiftCount cnt s ∧ shiftCount cnt s ≤ 32) && (s.getD dx).getLsbD (32 - shiftCount cnt s)⟩).advanced
            1) := by
  refine finish_shiftOp (closed := fun n => s.getD dx <<< n)
    (last := fun n => decide (1 ≤ n ∧ n ≤ 32) && (s.getD dx).getLsbD (32 - n)) (BitVec.shiftLeft_zero _) (fun n => ?_) rfl
    fun n => ?_
  · rw [shiftLeftStep_value, BitVec.shiftLeft_add]
  · simp only [shiftLeftStep, BitVec.getLsbD_shiftLeft]
    by_cases h : n < 32
    · simp [show 32 - (n + 1) = 31 - n by omega, h, show ¬ 31 < n by omega]
    · simp [h, show 31 < n by omega]

theorem finish_shiftRightLogical (cnt : ShiftCount) (dx : Fin 8) (s : State) :
    finish s (shiftOp shiftRightLogicalStep cnt dx s) =
      .next (((s.setD dx (s.getD dx >>> shiftCount cnt s)).setFlags
        ⟨if shiftCount cnt s = 0 then s.flags.x else
            decide (1 ≤ shiftCount cnt s) && (s.getD dx).getLsbD (shiftCount cnt s - 1),
          (s.getD dx >>> shiftCount cnt s).getLsbD 31, decide (s.getD dx >>> shiftCount cnt s = 0#32), false,
          decide (1 ≤ shiftCount cnt s) && (s.getD dx).getLsbD (shiftCount cnt s - 1)⟩).advanced 1) := by
  refine finish_shiftOp (closed := fun n => s.getD dx >>> n)
    (last := fun n => decide (1 ≤ n) && (s.getD dx).getLsbD (n - 1)) (BitVec.ushiftRight_zero _) (fun n => ?_) rfl
    fun n => ?_
  · rw [shiftRightLogicalStep_value, BitVec.shiftRight_add]
  · simp [shiftRightLogicalStep]

theorem finish_shiftRightArithmetic (cnt : ShiftCount) (dx : Fin 8) (s : State) :
    finish s (shiftOp shiftRightArithmeticStep cnt dx s) =
      .next (((s.setD dx ((s.getD dx).sshiftRight (shiftCount cnt s))).setFlags
        ⟨if shiftCount cnt s = 0 then s.flags.x else decide (1 ≤ shiftCount cnt s) &&
            (if shiftCount cnt s ≤ 32 then (s.getD dx).getLsbD (shiftCount cnt s - 1) else (s.getD dx).getLsbD 31),
          ((s.getD dx).sshiftRight (shiftCount cnt s)).getLsbD 31,
          decide ((s.getD dx).sshiftRight (shiftCount cnt s) = 0#32), false, decide (1 ≤ shiftCount cnt s) &&
            (if shiftCount cnt s ≤ 32 then (s.getD dx).getLsbD (shiftCount cnt s - 1) else (s.getD dx).getLsbD 31)⟩).advanced
              1) := by
  refine finish_shiftOp (closed := fun n => (s.getD dx).sshiftRight n)
    (last := fun n => decide (1 ≤ n) && (if n ≤ 32 then (s.getD dx).getLsbD (n - 1) else (s.getD dx).getLsbD 31))
    (BitVec.sshiftRight_zero) (fun n => ?_) rfl fun n => ?_
  · rw [shiftRightArithmeticStep_value, BitVec.sshiftRight_add]
  · simp only [shiftRightArithmeticStep, BitVec.getLsbD_sshiftRight]
    by_cases h : n < 32
    · simp [h]
    · simp [h, BitVec.msb_eq_getLsbD_last]

theorem shiftCount_imm (q : Fin 8) (s : State) : shiftCount (.imm q) s = if q = 0 then 8 else q.val := by
  fin_cases q <;> rfl

theorem shiftCount_reg (dy : Fin 8) (s : State) : shiftCount (.reg dy) s = (s.getD dy).toNat % 64 := by
  simp [shiftCount, BitVec.extractLsb'_toNat]

/-- Settles O25: the loop's values and last bits have closed forms, by induction on the count. -/
theorem shiftClosedForms : Obligations.ShiftClosedForms := fun cnt dx s =>
  ⟨fun q => shiftCount_imm q s, fun dy => shiftCount_reg dy s, finish_shiftLeft cnt dx s, finish_shiftLeft cnt dx s,
    finish_shiftRightLogical cnt dx s, finish_shiftRightArithmetic cnt dx s⟩

end Sys2Proof.Machine
end

section
/-! PROOFS. Memory read in mixed widths (spec 20_memory.md R63), and the instructions that work on one bit or one byte of an operand
(46_bit_manipulation.md R300 to R304, 42_program_control.md R192). -/

namespace Sys2Proof.Machine

-- One theorem after another: elaborating them side by side takes a thread each, and no less time.
set_option Elab.async false

/-! The bytes of a stored longword (R62). -/

theorem byteOf_storeOf_long (m : List Host.Cell) (a v : Long) :
    byteOf (storeOf m a .long v) a = v.extractLsb' 24 8 ∧ byteOf (storeOf m a .long v) (a + 1#32) = v.extractLsb' 16 8 ∧
    byteOf (storeOf m a .long v) (a + 2#32) = v.extractLsb' 8 8 ∧
    byteOf (storeOf m a .long v) (a + 3#32) = v.extractLsb' 0 8 := by
  have h01 : a ≠ a + 1#32 := by simp
  have h02 : a ≠ a + 2#32 := by simp
  have h03 : a ≠ a + 3#32 := by simp
  have h12 : a + 1#32 ≠ a + 2#32 := add_ne a 1 2 (by decide) (by decide) (by decide)
  have h13 : a + 1#32 ≠ a + 3#32 := add_ne a 1 3 (by decide) (by decide) (by decide)
  have h23 : a + 2#32 ≠ a + 3#32 := add_ne a 2 3 (by decide) (by decide) (by decide)
  simp only [storeOf, byteOf_write, h01.symm, h02.symm, h03.symm, h12.symm, h13.symm, h23.symm, if_true, if_false, and_self]

theorem byteOf_storeOf_byte (m : List Host.Cell) (a v : Long) :
    byteOf (storeOf m a .byte v) a = v.extractLsb' 0 8 := by
  simp [storeOf, byteOf_write]

/-- A byte outside the one stored. -/
theorem byteOf_storeOf_byte_ne (m : List Host.Cell) {a b : Long} (v : Long) (h : b ≠ a) :
    byteOf (storeOf m a .byte v) b = byteOf m b :=
  byteOf_storeOf_frame m a b .byte v (by rwa [Size.bytes, spanOf_byte, List.mem_singleton, BitVec.toNat_inj])

/-- The low byte of an operand of byte size. -/
theorem byte_trunc_low (v : Long) : (Size.byte.trunc v).extractLsb' 0 8 = v.extractLsb' 0 8 := by
  refine BitVec.eq_of_getLsbD_eq fun i hi => ?_
  simp [Size.trunc, hi, show i < 32 by omega]

theorem byte_zeroExtend_low (b : Byte) : (b.setWidth 32).extractLsb' 0 8 = b := by
  refine BitVec.eq_of_getLsbD_eq fun i hi => ?_
  simp [hi, show i < 32 by omega]

theorem byte_merge_low (old v : Long) : (Size.byte.merge old v).extractLsb' 0 8 = v.setWidth 8 :=
  BitVec.extractLsb'_append_eq_right

theorem byte_load_low (s : State) (a : Long) : (s.load a .byte).setWidth 8 = byteOf s.mem a := by
  simp [State.load, loadOf]

@[simp] theorem State.advanced_refuses (s : State) (n : Nat) (k : AccessKind) (a : Long) (m : Nat) :
    (s.advanced n).refuses k a m = s.refuses k a m := State.refuses_eq _ _ rfl rfl _ _ _

/-! The register indirect mode, which has no words and no update. -/

theorem sourceReady_ind {sz : Size} {n : Fin 8} {s : State} (off : Nat) (h : s.refuses .read (s.getA n) sz.bytes = false) :
    sourceReady sz off (.ind n) s = true := by
  simp [sourceReady, eaReady, isMemory, eaWords, extReady, badExtension, eaAllows, eaAddress, h]

theorem destReady_ind {sz : Size} {n : Fin 8} {s : State} (off : Nat) (h : s.refuses .write (s.getA n) sz.bytes = false) :
    destReady sz off (.ind n) s = true := by
  simp [destReady, eaReady, isMemory, eaWords, extReady, badExtension, eaAllows, eaAddress, h]

/-- A register stored where an address register points. -/
theorem exec_move_to_ind {sz : Size} {m n : Fin 8} {s : State} (h : s.refuses .write (s.getA n) sz.bytes = false) :
    exec (moveInstr sz (.dreg m) (.ind n)) s =
      .next (((s.store (s.getA n) sz (sz.trunc (s.getD m))).setFlags
        ⟨s.flags.x, sz.msb (sz.trunc (s.getD m)), decide (sz.trunc (sz.trunc (s.getD m)) = 0#32), false, false⟩).advanced
          1) :=
  moveCompletes sz (.dreg m) (.ind n) s rfl rfl (destReady_ind _ h)

/-- A register loaded from where an address register points. -/
theorem exec_move_from_ind {sz : Size} {m n : Fin 8} {s : State} (h : s.refuses .read (s.getA n) sz.bytes = false) :
    exec (moveInstr sz (.ind n) (.dreg m)) s =
      .next (((s.setD m (sz.merge (s.getD m) (s.load (s.getA n) sz))).setFlags
        ⟨s.flags.x, sz.msb (s.load (s.getA n) sz), decide (sz.trunc (s.load (s.getA n) sz) = 0#32), false, false⟩).advanced
          1) :=
  moveCompletes sz (.ind n) (.dreg m) s rfl (sourceReady_ind _ h) rfl

/-- Settles O10: the four bytes of a stored longword, read in every width. -/
theorem mixedWidthView : Obligations.MixedWidthView := by
  refine ⟨fun s a => ?_, fun s h => ?_, fun s hw hr => ?_⟩
  · obtain ⟨h0, h1, h2, h3⟩ := byteOf_storeOf_long s.mem a 0x11223344#32
    have h23 : a + 2#32 + 1#32 = a + 3#32 := by rw [BitVec.add_assoc]; rfl
    simp only [State.load, State.store_mem, loadOf, h0, h1, h2, h3, h23]
    decide
  · refine ⟨_, exec_move_to_ind (sz := .byte) h, ?_, fun b hb => ?_⟩
    · exact (byteOf_storeOf_byte _ _ _).trans (byte_trunc_low _)
    · exact byteOf_storeOf_byte_ne _ _ hb
  · refine ⟨_, _, exec_move_to_ind (sz := .long) hw, exec_move_from_ind (sz := .byte) ?_, ?_⟩
    · simpa [Size.bytes] using hr
    · rw [State.advanced_getD, State.setFlags_getD, State.getD_setD_same, byte_merge_low, byte_load_low]
      simp only [State.advanced_mem, State.setFlags_mem, State.store_mem, State.advanced_getA, State.setFlags_getA,
        State.store_getA, byteOf_storeOf_long s.mem]
      rfl

/-! One bit (R300). -/

theorem bitMask_getLsbD (b : Nat) {j : Nat} (h : j < 32) : (bitMask b).getLsbD j = decide (j = b) := by
  rw [bitMask, BitVec.getLsbD_shiftLeft, BitVec.getLsbD_one, Bool.eq_iff_iff]
  simp only [Bool.and_eq_true, Bool.not_eq_true', decide_eq_true_eq, decide_eq_false_iff_not]
  omega

theorem bitChange_bits (old : Long) (b : Nat) {j : Nat} (h : j < 32) :
    (bitChange old b).getLsbD j = if j = b then !old.getLsbD b else old.getLsbD j := by
  rw [bitChange, BitVec.getLsbD_xor, bitMask_getLsbD b h]
  split <;> simp [*]

theorem bitClear_bits (old : Long) (b : Nat) {j : Nat} (h : j < 32) :
    (bitClear old b).getLsbD j = if j = b then false else old.getLsbD j := by
  rw [bitClear, BitVec.getLsbD_and, BitVec.getLsbD_not, bitMask_getLsbD b h]
  split <;> simp [*]

theorem bitSet_bits (old : Long) (b : Nat) {j : Nat} (h : j < 32) :
    (bitSet old b).getLsbD j = if j = b then true else old.getLsbD j := by
  rw [bitSet, BitVec.getLsbD_or, bitMask_getLsbD b h]
  split <;> simp [*]

/-- An instruction that changes one bit of its operand. -/
theorem finish_bitModify {ea : Ea} {s : State} {k : Nat} (hm : ∀ n, ea ≠ .areg n)
    (h : modifyReady (bitSize ea) k ea s = true) (change : Long → Nat → Long) (bn : Nat) :
    finish s (bitModify change k bn ea s) =
      .next (((written (bitSize ea) ea (change (sourceValue (bitSize ea) ea s) (bn % bitWidth ea)) s).setFlags
        { s.flags with z := !(sourceValue (bitSize ea) ea s).getLsbD (bn % bitWidth ea) }).advanced
          (k + eaWords .byte ea)) := by
  rw [bitModify, modifyEa_ok _ k ea _ s hm h]
  rfl

theorem finish_bitTest {ea : Ea} {s : State} {k : Nat} (h : sourceReady (bitSize ea) k ea s = true) (bn : Nat) :
    finish s (bitTest k bn ea s) =
      .next (((eaUpdate (bitSize ea) ea s).setFlags
        { s.flags with z := !(sourceValue (bitSize ea) ea s).getLsbD (bn % bitWidth ea) }).advanced
          (k + eaWords .byte ea)) := by
  rw [bitTest, readEa_ok _ k ea s h, Res.bind_ok, eaUpdate_flags]
  rfl

/-- The static forms fetch the word of the bit number first. -/
theorem finish_afterWord {s : State} (h : extReady 1 1 s = true) (k : State → Res Unit) :
    finish s ((fetchExt 1 1 s).bind fun _ s => k s) = finish s (k s) := by
  rw [fetchExt_ok 1 1 s h, Res.bind_ok]

/-- Settles O34: bit by bit, with the bit number modulo the operand's width. -/
theorem bitOperations : Obligations.BitOperations := by
  intro bn dy ea s sz old bits result tested bi br
  have hi : bi = bn.toNat % bitWidth ea := by
    simp only [bi]
    cases ea <;> rfl
  have hr : br = (s.getD dy).toNat % bitWidth ea := by
    simp only [br]
    cases ea <;> rfl
  rw [hi, hr]
  refine ⟨fun hs he => ⟨fun h => ?_, fun h => ?_⟩, fun hd h => ?_, fun _ h => finish_bitTest h _⟩
  · have hm := ne_areg_of_dataAlterable (dataAlterable_of_short hs)
    exact ⟨⟨_, fun j hj => bitChange_bits old _ hj, (finish_afterWord he _).trans (finish_bitModify hm h bitChange _)⟩,
      ⟨_, fun j hj => bitClear_bits old _ hj, (finish_afterWord he _).trans (finish_bitModify hm h bitClear _)⟩,
      ⟨_, fun j hj => bitSet_bits old _ hj, (finish_afterWord he _).trans (finish_bitModify hm h bitSet _)⟩⟩
  · exact (finish_afterWord he _).trans (finish_bitTest h _)
  · have hm := ne_areg_of_dataAlterable hd
    exact ⟨⟨_, fun j hj => bitChange_bits old _ hj, finish_bitModify hm h bitChange _⟩,
      ⟨_, fun j hj => bitClear_bits old _ hj, finish_bitModify hm h bitClear _⟩,
      ⟨_, fun j hj => bitSet_bits old _ hj, finish_bitModify hm h bitSet _⟩⟩

/-! TAS. -/

theorem modifyReady_memory {sz : Size} {off : Nat} {ea : Ea} {s : State} (hm : isMemory ea = true)
    (h : modifyReady sz off ea s = true) :
    eaReady sz off ea s = true ∧ s.refuses .read (eaAddress sz ea s) sz.bytes = false ∧
      s.refuses .write (eaAddress sz ea s) sz.bytes = false := by
  have hd : modifyReady sz off ea s = (eaReady sz off ea s && eaAllows .read sz ea s && eaAllows .write sz ea s) := by
    cases ea <;> first | rfl | cases hm
  simpa [hd, eaAllows, and_assoc] using h

theorem exec_tas {ea : Ea} {s : State} (hm : isMemory ea = true) (h : modifyReady .byte 1 ea s = true) :
    exec (.tas ea) s =
      .next ((((eaUpdate .byte ea s).store (eaAddress .byte ea s) .byte
        (s.load (eaAddress .byte ea s) .byte ||| 0x80#32)).setFlags
          (Flags.moveStyle .byte (s.load (eaAddress .byte ea s) .byte) s.flags)).advanced (1 + eaWords .byte ea)) := by
  obtain ⟨he, hr, hw⟩ := modifyReady_memory hm h
  have hr' : (eaUpdate .byte ea s).refuses .read (eaAddress .byte ea s) Size.byte.bytes = false := by simpa using hr
  have hw' : (eaUpdate .byte ea s).refuses .write (eaAddress .byte ea s) Size.byte.bytes = false := by simpa using hw
  change finish s ((eaAddr .byte 1 ea s).bind _) = _
  rw [eaAddr_ok _ _ _ _ he, Res.bind_ok, loadMem_ok _ _ _ hr', Res.bind_ok, eaUpdate_load, storeMem_ok _ _ _ _ hw',
    Res.bind_ok, State.store_flags, eaUpdate_flags]
  rfl

theorem byte_or_low (b : Byte) : (b.setWidth 32 ||| 0x80#32).extractLsb' 0 8 = b ||| 0x80#8 := by
  rw [BitVec.extractLsb'_or, byte_zeroExtend_low]
  rfl

theorem byte_zeroExtend_eq_zero (b : Byte) : Size.byte.trunc (b.setWidth 32) = 0#32 ↔ b = 0#8 := by
  rw [← BitVec.toNat_inj, ← BitVec.toNat_inj]
  have := b.isLt
  simp only [Size.trunc, BitVec.toNat_setWidth, BitVec.toNat_ofNat]
  omega

/-- The flags of a byte read from memory. -/
theorem byte_flags (b : Byte) (x : Bool) :
    (⟨x, Size.byte.msb (b.setWidth 32), decide (Size.byte.trunc (b.setWidth 32) = 0#32), false, false⟩ : Flags) =
      ⟨x, b.getLsbD 7, decide (b = 0#8), false, false⟩ := by
  have hn : Size.byte.msb (b.setWidth 32) = b.getLsbD 7 := by
    rw [Size.msb, BitVec.getLsbD_setWidth]
    rfl
  rw [hn, decide_eq_decide.mpr (byte_zeroExtend_eq_zero b)]

@[simp] theorem eaUpdate_d (sz : Size) (ea : Ea) (s : State) : (eaUpdate sz ea s).d = s.d := by
  cases ea <;> simp [eaUpdate]

/-- Settles O35: the byte, the flags of the byte before, and what the store leaves. -/
theorem testAndSet : Obligations.TestAndSet := by
  intro ea s hm h
  refine ⟨_, exec_tas (isMemory_of_memoryAlterable hm) h, ?_, ?_, ?_, ?_, fun n => ?_, ?_, ?_, fun a ha => ?_⟩
  · exact (byteOf_storeOf_byte _ _ _).trans (byte_or_low _)
  · rw [State.advanced_flags, State.setFlags_flags, Flags.moveStyle_eq]
    exact byte_flags _ _
  · simp
  · simp
  · simp
  · rintro n rfl
    simp [eaUpdate, sizeStep, Size.bytes]
  · rintro n rfl
    simp [eaUpdate, sizeStep, Size.bytes]
  · refine (byteOf_storeOf_byte_ne _ _ ha).trans ?_
    rw [eaUpdate_mem]
    rfl

end Sys2Proof.Machine
end

section
/-! PROOFS. Branches, jumps, the stack and the instructions that do nothing (spec 42_program_control.md R180 to R189,
41_data_movement.md R159 to R161, 47_system_control.md R328, R339, R340). -/

namespace Sys2Proof.Machine

-- One theorem after another: elaborating them side by side takes a thread each, and no less time.
set_option Elab.async false

/-! The next instruction's address. -/

/-- The opword and `n` words after it. -/
theorem pc_after_words (p : Long) (n : Nat) :
    p + 2#32 + 2#32 * BitVec.ofNat 32 n = p + 2#32 * BitVec.ofNat 32 (1 + n) := by
  rw [BitVec.ofNat_add, BitVec.mul_add, BitVec.add_assoc]
  rfl

/-! What a push leaves. -/

@[simp] theorem pushed_pc (v : Long) (s : State) : (pushed v s).pc = s.pc := by simp [pushed]
@[simp] theorem pushed_sr (v : Long) (s : State) : (pushed v s).sr = s.sr := by simp [pushed]
@[simp] theorem pushed_cfg (v : Long) (s : State) : (pushed v s).cfg = s.cfg := by simp [pushed]
@[simp] theorem pushed_d (v : Long) (s : State) : (pushed v s).d = s.d := by simp [pushed]
@[simp] theorem pushed_sp (v : Long) (s : State) : (pushed v s).sp = s.sp - 4#32 := by simp [pushed]
@[simp] theorem pushed_mem (v : Long) (s : State) : (pushed v s).mem = storeOf s.mem (s.sp - 4#32) .long v := by
  simp [pushed]

/-! The registers a stack instruction leaves. -/

@[simp] theorem State.advanced_otherSp (s : State) (n : Nat) : (s.advanced n).otherSp = s.otherSp := rfl
@[simp] theorem State.advanced_control (s : State) (n : Nat) : (s.advanced n).control = s.control := rfl
@[simp] theorem State.setSp_control (s : State) (v : Long) : (s.setSp v).control = s.control := by simp [State.control]
@[simp] theorem State.setA_control (s : State) (n : Fin 8) (v : Long) : (s.setA n v).control = s.control := by
  simp [State.control]

/-- The stack pointer that is not active is not A7. -/
@[simp] theorem State.setSp_otherSp (s : State) (v : Long) : (s.setSp v).otherSp = s.otherSp := by
  simp only [State.otherSp, State.setSp_dualSp, State.setSp_supervisor]
  unfold State.setSp
  split <;> simp [*]

@[simp] theorem State.setA_otherSp (s : State) (n : Fin 8) (v : Long) : (s.setA n v).otherSp = s.otherSp := by
  by_cases h : n.val < 7
  · rw [State.setA_lt s n v h]
    rfl
  · rw [State.setA_seven s n v h, State.setSp_otherSp]

theorem val_lt_seven {n : Fin 8} (h : n ≠ 7) : n.val < 7 := by
  have := n.isLt
  have hv : n.val ≠ 7 := fun hv => h (Fin.ext hv)
  omega

/-- A7 is not written with another register. -/
theorem State.setA_sp (s : State) {n : Fin 8} (h : n ≠ 7) (v : Long) : (s.setA n v).sp = s.sp := by
  have h7 := State.getA_setA s n 7 v
  rwa [if_neg h] at h7

/-! Branches. -/

theorem exec_bra {d : Disp} {s : State} (h : extReady 1 (dispWords d) s = true) :
    exec (.bra d) s = .next { s with pc := s.pc + 2#32 + dispValue d } := by
  change finish s ((fetchExt 1 (dispWords d) s).bind _) = _
  rw [fetchExt_ok _ _ _ h]
  rfl

theorem exec_bcc {d : Disp} {s : State} (h : extReady 1 (dispWords d) s = true) (c : Cond) :
    exec (.bcc c d) s =
      if condHolds c s.flags then .next { s with pc := s.pc + 2#32 + dispValue d } else .next (s.advanced (1 + dispWords d)) := by
  change finish s ((fetchExt 1 (dispWords d) s).bind _) = _
  rw [fetchExt_ok _ _ _ h, Res.bind_ok]
  split <;> rfl

theorem exec_bsr {d : Disp} {s : State} (h : extReady 1 (dispWords d) s = true) (hp : pushReady s = true) :
    exec (.bsr d) s = .next { pushed (s.pc + 2#32 * BitVec.ofNat 32 (1 + dispWords d)) s with
      pc := s.pc + 2#32 + dispValue d } := by
  change finish s ((fetchExt 1 (dispWords d) s).bind _) = _
  rw [fetchExt_ok _ _ _ h, Res.bind_ok, push_ok _ _ hp, Res.bind_ok, branchTarget, pushed_pc, pc_after_words]
  rfl

/-- Settles O36: the displacement's value and words by its three forms. -/
theorem branches : Obligations.Branches := by
  intro c d s h offset words
  have ho : offset = dispValue d := by
    simp only [offset]
    cases d <;> rfl
  have hw : words = 1 + dispWords d := by
    simp only [words]
    cases d <;> rfl
  rw [ho, hw]
  exact ⟨exec_bra h, fun hc => (exec_bcc h c).trans (if_pos hc),
    fun hc => (exec_bcc h c).trans (if_neg (by rw [hc]; exact Bool.false_ne_true)), exec_bsr h⟩

/-! Jumps. -/

/-- A control mode comes to its address and updates nothing. -/
theorem eaAddr_control {ea : Ea} {s : State} (hc : ea.control = true) (h : eaReady .long 1 ea s = true) :
    eaAddr .long 1 ea s = .ok (eaAddress .long ea s) s := by
  rw [eaAddr_ok _ _ _ _ h, eaUpdate_of_control _ _ _ hc]

/-- Settles O37: the address comes before the push, and the stack's longword is the return address. -/
theorem jumpsAndReturns : Obligations.JumpsAndReturns := by
  intro ea s
  refine ⟨fun hc h => ⟨?_, fun hp => ?_⟩, fun h => ?_⟩
  · change finish s ((eaAddr .long 1 ea s).bind _) = _
    rw [eaAddr_control hc h]
    rfl
  · change finish s ((eaAddr .long 1 ea s).bind _) = _
    rw [eaAddr_control hc h, Res.bind_ok, push_ok _ _ hp, pc_after_words]
    rfl
  · change finish s ((loadMem s.sp .long s).bind _) = _
    rw [loadMem_ok _ _ _ h]
    rfl

/-! The stack. -/

theorem exec_link {ax : Fin 8} {s : State} (hax : ax ≠ 7) (h : extReady 1 1 s = true) (hp : pushReady s = true) (d16 : Word) :
    exec (.link ax d16) s =
      .next ((((pushed (s.getA ax) s).setA ax (s.sp - 4#32)).setSp (s.sp - 4#32 + sextWord d16)).advanced 2) := by
  change finish s ((fetchExt 1 1 s).bind _) = _
  rw [fetchExt_ok _ _ _ h, Res.bind_ok, if_neg (Nat.ne_of_lt (val_lt_seven hax)), push_ok _ _ hp, Res.bind_ok]
  simp only [State.setA_sp _ hax, pushed_sp]
  rfl

theorem exec_unlk {ax : Fin 8} {s : State} (hax : ax ≠ 7) (h : s.refuses .read (s.getA ax) 4 = false) :
    exec (.unlk ax) s =
      .next ((((s.setSp (s.getA ax)).setA ax (s.load (s.getA ax) .long)).setSp (s.getA ax + 4#32)).advanced 1) := by
  have hr : (s.setSp (s.getA ax)).refuses .read (s.setSp (s.getA ax)).sp Size.long.bytes = false := by
    simpa [Size.bytes] using h
  have hload : (s.setSp (s.getA ax)).load (s.getA ax) .long = s.load (s.getA ax) .long := by simp [State.load]
  change execUnlk ax s = _
  unfold execUnlk
  rw [if_neg (Nat.ne_of_lt (val_lt_seven hax))]
  dsimp only
  rw [loadMem_ok _ _ _ hr, Res.bind_ok, State.setSp_sp, hload]
  rfl

/-- Settles O38: each field of the next state through the registers' own rules. -/
theorem stackInstructions : Obligations.StackInstructions := by
  intro ea ax d16 s
  refine ⟨fun hc h hp => ?_, fun hax h hp => ⟨_, exec_link hax h hp d16, ?_, ?_, ?_, ?_, ?_, ?_⟩,
    fun hax h => ⟨_, exec_unlk hax h, ?_, ?_, fun n hn h7 => ?_, ?_, ?_, ?_, ?_, ?_, ?_⟩⟩
  · change finish s ((eaAddr .long 1 ea s).bind _) = _
    rw [eaAddr_control hc h, Res.bind_ok, push_ok _ _ hp]
    rfl
  · simp only [State.load, State.advanced_mem, State.setSp_mem, State.setA_mem, pushed_mem, loadOf_storeOf]
    rfl
  · simp [State.getA_setSp, val_lt_seven hax]
  · simp [sextWord]
  · simp [sextWord]
  · simp
  · simp
  · simp [State.getA_setSp, val_lt_seven hax]
  · simp
  · simp [State.getA_setSp, State.getA_setA, val_lt_seven h7, hn.symm]
  · simp
  · simp
  · simp
  · simp
  · simp
  · simp

/-- Settles O39: the words are fetched where there are any, and the pc moves. -/
theorem noOperations : Obligations.NoOperations := by
  intro s
  refine ⟨rfl, rfl, rfl, fun w h => ?_, fun w1 w2 h => ?_, fun c ax h => synchronizing_ready 0 s _ h rfl,
    fun ay h => synchronizing_ready 0 s _ h rfl⟩
  · change finish s ((fetchExt 1 1 s).bind _) = _
    rw [fetchExt_ok _ _ _ h]
    rfl
  · change finish s ((fetchExt 1 2 s).bind _) = _
    rw [fetchExt_ok _ _ _ h]
    rfl

end Sys2Proof.Machine
end

section
/-! PROOFS. System control (spec 47_system_control.md R320 to R337): SR, USP, the control registers, STOP, HALT, RTE, and what is
refused or trapped. -/

namespace Sys2Proof.Machine

-- One theorem after another: elaborating them side by side takes a thread each, and no less time.
set_option Elab.async false

/-! Traps and violations. -/

/-- Settles O45: both raise, and the entry is from the unchanged state. -/
theorem trapAndIllegal : Obligations.TrapAndIllegal := fun _ => ⟨fun _ => rfl, rfl⟩

theorem privileged_user {s : State} (h : s.supervisor = false) (k : State → Res Unit) :
    privileged s k = .raise .privilegeViolation s := by
  simp [privileged, h]

theorem privileged_supervisor {s : State} (h : s.supervisor = true) (k : State → Res Unit) : privileged s k = k s := by
  simp [privileged, h]

/-- A privileged instruction that does not synchronize. -/
theorem finish_privileged_user {s : State} (h : s.supervisor = false) (k : State → Res Unit) :
    finish s (privileged s k) = .next (enter 8#8 s.pc 0#4 none s) := by
  rw [privileged_user h]
  rfl

theorem finish_withUsp_user {s : State} (h : s.supervisor = false) (hu : uspPresent s.cfg = true) (k : State → Res Unit) :
    finish s (withUsp s k) = .next (enter 8#8 s.pc 0#4 none s) := by
  rw [withUsp, if_pos hu]
  exact finish_privileged_user h _

/-- Settles O46: the check comes first in each privileged instruction, after synchronizing in those that do. -/
theorem privilegeViolations : Obligations.PrivilegeViolations := by
  intro i s hi h husp
  have unit (hr : (∃ r, i = .moveToUsp r) ∨ ∃ r, i = .moveFromUsp r) : uspPresent s.cfg = true := by
    rcases husp with ⟨ht, hf⟩ | hu
    · exact hr.elim (fun ⟨r, hr⟩ => absurd hr (ht r)) fun ⟨r, hr⟩ => absurd hr (hf r)
    · exact hu
  cases i with
  | moveFromSr | stldsr => exact finish_privileged_user h _
  | moveToUsp r => exact finish_withUsp_user h (unit (.inl ⟨r, rfl⟩)) _
  | moveFromUsp r => exact finish_withUsp_user h (unit (.inr ⟨r, rfl⟩)) _
  | halt | moveToSr | movec | rte | stop | wdebug | cpushl | intouch =>
    unfold exec
    exact synchronizing_user _ s _ h
  | _ => cases hi

/-! SR. -/

/-- What the run has stored is forgotten, so its words can be fetched. -/
theorem extReady_synced {off n : Nat} {s : State} (h : extReady off n s = true) : extReady off n s.synced = true := by
  simp only [extReady, List.all_eq_true, Bool.and_eq_true, Bool.not_eq_true'] at h ⊢
  intro i hi
  refine ⟨(h i hi).1, ?_⟩
  simp [State.dirty]

theorem srMask_trace (cfg : Config) : (srMask cfg).getLsbD 15 = true := by
  unfold srMask
  split <;> decide

theorem loadSr_trace (s : State) (v : Word) : (s.loadSr v).trace = v.getLsbD 15 := by
  rw [State.trace, State.loadSr_sr, BitVec.getLsbD_and, srMask_trace, Bool.and_true]

/-- A data register or an immediate, in the state that has forgotten what was stored. -/
theorem dregOrImm_synced {src : Ea} {s : State} (hc : src.dregOrImm .word = true) (h : sourceReady .word 1 src s = true) :
    extReady 1 (eaWords .word src) s = true ∧ sourceReady .word 1 src s.synced = true ∧
      sourceValue .word src s.synced = sourceValue .word src s := by
  cases src with
  | dreg n => exact ⟨rfl, rfl, rfl⟩
  | imm v => exact ⟨h, extReady_synced h, rfl⟩
  | areg | ind | postinc | predec | disp | index | absW | absL | pcDisp | pcIndex => cases hc

theorem exec_moveToSr {src : Ea} {s : State} (hs : s.supervisor = true) (hc : src.dregOrImm .word = true)
    (h : sourceReady .word 1 src s = true) :
    exec (.moveToSr src) s =
      .next ((s.synced.loadSr ((sourceValue .word src s).setWidth 16)).advanced (1 + eaWords .word src)) := by
  obtain ⟨hwords, hready, hvalue⟩ := dregOrImm_synced hc h
  change execMoveToSr src s = _
  refine (synchronizing_ready _ s _ hs hwords).trans ?_
  rw [readEa_ok _ _ _ _ hready, eaUpdate_of_dregOrImm hc, hvalue]
  rfl

theorem loadSr_of_cfg {s : State} {c : Config} (h : s.cfg = c) (v : Word) : s.loadSr v = { s with sr := v &&& srMask c } := by
  subst h
  rfl

/-- An operand of STOP or STLDSR that may be loaded. -/
theorem badSrImage_false {cfg : Config} {imm : Word} (h : cfg.srImmSClear = .load ∨ imm.getLsbD 13 = true) :
    badSrImage cfg imm = false := by
  rcases h with h | h
  · simp [badSrImage, h]
  · rw [badSrImage, h]
    simp

theorem badSrImage_true {cfg : Config} {imm : Word} (h : cfg.srImmSClear = .privilegeViolation)
    (hb : imm.getLsbD 13 = false) : badSrImage cfg imm = true := by
  rw [badSrImage, h, hb]
  rfl

theorem exec_stldsr {imm : Word} {s : State} (hs : s.supervisor = true) (he : extReady 1 2 s = true) :
    exec (.stldsr imm) s =
      finish s (if badSrImage s.cfg imm then .raise .privilegeViolation s
        else (push (s.sr.setWidth 32) s).bind fun _ s => advance 3 (s.loadSr imm)) := by
  change finish s (privileged s _) = _
  rw [privileged_supervisor hs, fetchExt_ok _ _ _ he]
  rfl

/-- Settles O40: the implemented bits of SR, read, loaded, and pushed before the load. -/
theorem statusRegisterMoves : Obligations.StatusRegisterMoves := by
  intro s hs
  refine ⟨fun dx hsr => ⟨Size.word.merge (s.getD dx) ((s.sr &&& srMask s.cfg).setWidth 32), ?_, ?_, Size.word_merge_high _ _⟩,
    fun src hc h => exec_moveToSr hs hc h, fun imm he hp hb => ?_⟩
  · change finish s (privileged s _) = _
    rw [privileged_supervisor hs]
    rfl
  · rw [Size.word_merge_low, hsr]
    simp
  · rw [exec_stldsr hs he, badSrImage_false hb, if_neg Bool.false_ne_true, push_ok _ _ hp, Res.bind_ok,
      loadSr_of_cfg (pushed_cfg _ s)]
    rfl

/-! USP. -/

theorem withUsp_ready {s : State} (hu : uspPresent s.cfg = true) (hs : s.supervisor = true)
    (he : s.cfg.hasEuspBit = true → eusp s.cacr = true) (k : State → Res Unit) : withUsp s k = k s := by
  have hb : (s.cfg.hasEuspBit && !eusp s.cacr) = false := by
    cases hc : s.cfg.hasEuspBit
    · rfl
    · rw [he hc]
      rfl
  rw [withUsp, if_pos hu, privileged_supervisor hs, hb, if_neg Bool.false_ne_true]

/-- Settles O41: the unit first, then the mode, then CACR[EUSP]. -/
theorem userStackPointerMoves : Obligations.UserStackPointerMoves := by
  intro ax s
  refine ⟨fun hu hs he => ⟨?_, ?_⟩, fun hu => ⟨?_, ?_⟩⟩
  · change finish s (withUsp s _) = _
    rw [withUsp_ready hu hs he]
    rfl
  · change finish s (withUsp s _) = _
    rw [withUsp_ready hu hs he]
    rfl
  · change finish s (withUsp s _) = _
    rw [withUsp, if_neg (by rw [hu]; exact Bool.false_ne_true)]
    rfl
  · change finish s (withUsp s _) = _
    rw [withUsp, if_neg (by rw [hu]; exact Bool.false_ne_true)]
    rfl

/-- Settles O47: the refusal of each comes after the checks before it. -/
theorem specifiedRefusals : Obligations.SpecifiedRefusals := by
  intro s
  have hdebug (src : Ea) (hs : s.supervisor = true) : execWdebug src s = _ := synchronizing_ready 0 s _ hs rfl
  refine ⟨hdebug, fun d16 h => ?_, rfl, fun ax hu hs hb he => ?_⟩
  · change finish s ((fetchExt 1 1 s).bind _) = _
    rw [fetchExt_ok _ _ _ h]
    rfl
  · have refused (k : State → Res Unit) : withUsp s k = .refuse .uspDisabled := by
      rw [withUsp, if_pos hu, privileged_supervisor hs, hb, he]
      rfl
    exact ⟨congrArg (finish s) (refused _), congrArg (finish s) (refused _)⟩

/-! STOP and HALT. -/

theorem exec_stop {imm : Word} {s : State} (hs : s.supervisor = true) (he : extReady 1 1 s = true) :
    exec (.stop imm) s = finish s.synced (if badSrImage s.cfg imm then .raise .privilegeViolation s.synced
      else if s.trace || imm.getLsbD 15 then
        .ok () (enter 9#8 (s.pc + 4#32) 0#4 none { s.synced.loadSr imm with pc := s.pc + 4#32 })
      else .ok () { s.synced.loadSr imm with pc := s.pc + 4#32, run := .stopped }) := by
  rw [← loadSr_trace s.synced imm]
  change execStop imm s = _
  exact synchronizing_ready 1 s _ hs he

/-- Settles O43: the operand's bit 13 first, then T, old or new. -/
theorem stopAndHalt : Obligations.StopAndHalt := by
  intro imm s hs
  have hhalt : execHalt s = _ := synchronizing_ready 0 s _ hs rfl
  refine ⟨hhalt, fun he hb => ⟨fun ht hi => ?_, fun ht => ?_⟩,
    fun hp hb => ⟨fun he => ?_, fun he => ?_⟩⟩
  · rw [exec_stop hs he, badSrImage_false hb, ht, hi]
    rfl
  · have hor : (s.trace || imm.getLsbD 15) = true := by
      rcases ht with ht | ht <;> rw [ht] <;> simp
    rw [exec_stop hs he, badSrImage_false hb, hor]
    rfl
  · rw [exec_stop hs he, badSrImage_true hp hb]
    rfl
  · rw [exec_stldsr hs he, badSrImage_true hp hb]
    rfl

/-! RTE. -/

/-- The user stack pointer is active. -/
theorem setSp_of_user {s : State} (h : (s.dualSp && !s.supervisor) = true) (v : Long) : s.setSp v = { s with usp := v } :=
  if_pos h

theorem setSp_of_single {s : State} (h : ¬(s.dualSp && !s.supervisor) = true) (v : Long) : s.setSp v = { s with ssp := v } :=
  if_neg h

theorem setSp_synced (s : State) (v : Long) : s.synced.setSp v = { s.setSp v with unsynced := [] } := by
  by_cases h : (s.dualSp && !s.supervisor) = true
  · rw [setSp_of_user h, setSp_of_user (s := s.synced) h]
    rfl
  · rw [setSp_of_single h, setSp_of_single (s := s.synced) h]
    rfl

/-- The FORMAT's distance from 4, as the stack pointer moves. -/
theorem format_distance {f : BitVec 4} (h4 : 4 ≤ f.toNat) (h7 : f.toNat ≤ 7) :
    (f - 4#4).setWidth 32 = BitVec.ofNat 32 (f.toNat - 4) := by
  revert f
  decide

/-- A return from a frame that can be read. -/
theorem exec_rte {s : State} (hs : s.supervisor = true) (h0 : s.refuses .read s.sp 4 = false)
    (h4 : s.refuses .read (s.sp + 4#32) 4 = false) :
    exec .rte s =
      finish s.synced
        (if ((s.load s.sp .long).extractLsb' 28 4).toNat < 4 ∨ 7 < ((s.load s.sp .long).extractLsb' 28 4).toNat then
          .raise .formatError s.synced
        else jumpTo (s.load (s.sp + 4#32) .long)
          ((s.synced.setSp (s.sp + 8#32 + (((s.load s.sp .long).extractLsb' 28 4) - 4#4).setWidth 32)).loadSr
            ((s.load s.sp .long).extractLsb' 0 16))) := by
  refine (synchronizing_ready 0 s _ hs rfl).trans ?_
  have h0' : s.synced.refuses .read s.synced.sp Size.long.bytes = false := h0
  have h4' : s.synced.refuses .read (s.synced.sp + 4#32) Size.long.bytes = false := h4
  rw [returnFromException, loadMem_ok _ _ _ h0', Res.bind_ok, loadMem_ok _ _ _ h4']
  rfl

/-! The statement: in a namespace of its own, as the model has a function `returnFromException`. -/

namespace ExceptionReturn

/-- Settles O44: the format check before anything is loaded. -/
theorem returnFromException : Obligations.ReturnFromException := by
  intro s hs h0 h4 w fmt
  refine ⟨fun hlo hhi => ?_, fun hf => ?_⟩
  · have hf : ¬(fmt < 4 ∨ 7 < fmt) := by omega
    rw [exec_rte hs h0 h4, if_neg hf, format_distance hlo hhi, loadSr_of_cfg (State.setSp_cfg s.synced _), setSp_synced]
    rfl
  · rw [exec_rte hs h0 h4, if_pos hf]
    rfl

end ExceptionReturn

end Sys2Proof.Machine
end

section
/-! PROOFS. MOVEC (spec 47_system_control.md R336): every control register number, present or absent. -/

namespace Sys2Proof.Machine

-- One theorem after another: elaborating them side by side takes a thread each, and no less time.
set_option Elab.async false

/-! The write, and what an absent register does. -/

theorem exec_movec {rn : Fin 16} {rc : BitVec 12} {s : State} (hs : s.supervisor = true) (he : extReady 1 1 s = true) :
    exec (.movec rn rc) s =
      match writeControl rc (s.getR rn) s.synced with
      | none => finish s.synced (unassigned s.synced)
      | some t => .next (t.advanced 2) := by
  change execMovec rn rc s = _
  refine (synchronizing_ready 1 s _ hs he).trans ?_
  rw [show s.synced.getR rn = s.getR rn from rfl]
  cases writeControl rc (s.getR rn) s.synced <;> rfl

theorem exec_movec_present {rn : Fin 16} {rc : BitVec 12} {s t : State} (hs : s.supervisor = true)
    (he : extReady 1 1 s = true) (h : writeControl rc (s.getR rn) s.synced = some t) :
    exec (.movec rn rc) s = .next (t.advanced 2) := by
  rw [exec_movec hs he, h]

/-- A register the configuration lacks is an unassigned encoding. -/
theorem exec_movec_absent {rn : Fin 16} {rc : BitVec 12} {s : State} (hs : s.supervisor = true) (he : extReady 1 1 s = true)
    (h : writeControl rc (s.getR rn) s.synced = none) :
    (s.cfg.reserved = .trap → exec (.movec rn rc) s = .next (enter 4#8 s.pc 0#4 none { s with unsynced := [] })) ∧
      (s.cfg.reserved = .refuse → exec (.movec rn rc) s = .refused .unassigned) := by
  have hu : exec (.movec rn rc) s = finish s.synced (unassigned s.synced) := by rw [exec_movec hs he, h]
  refine ⟨fun hr => hu.trans ?_, fun hr => hu.trans ?_⟩
  · rw [unassigned, State.synced_cfg, hr]
    rfl
  · rw [unassigned, State.synced_cfg, hr]
    rfl

/-- What the statement says of a register that may be absent. -/
def MovecWrites (rn : Fin 16) (rc : BitVec 12) (s : State) (present : Bool) (t : State) : Prop :=
  (present = true → exec (.movec rn rc) s = .next (({ t with unsynced := [] } : State).advanced 2)) ∧
  (present = false → s.cfg.reserved = .trap → exec (.movec rn rc) s =
    .next (enter 4#8 s.pc 0#4 none { s with unsynced := [] })) ∧
  (present = false → s.cfg.reserved = .refuse → exec (.movec rn rc) s = .refused .unassigned)

theorem movecWrites {rn : Fin 16} {rc : BitVec 12} {s t : State} {present : Bool} (hs : s.supervisor = true)
    (he : extReady 1 1 s = true)
    (h : writeControl rc (s.getR rn) s.synced = if present then some { t with unsynced := [] } else none) :
    MovecWrites rn rc s present t := by
  refine ⟨fun hp => ?_, fun hp => ?_, fun hp => ?_⟩
  · rw [hp, if_pos rfl] at h
    exact exec_movec_present hs he h
  · rw [hp, if_neg Bool.false_ne_true] at h
    exact (exec_movec_absent hs he h).1
  · rw [hp, if_neg Bool.false_ne_true] at h
    exact (exec_movec_absent hs he h).2

/-! CACR. -/

/-- In supervisor mode A7 is the supervisor stack pointer, whatever CACR[EUSP] says. -/
theorem sp_of_supervisor {s : State} (h : s.supervisor = true) : s.sp = s.ssp := by
  rw [State.sp, h]
  simp

theorem writeCacr_cacr (v : Long) (s : State) : (writeCacr v s).cacr = v := by
  unfold writeCacr
  split <;> rfl

theorem writeCacr_ssp (v : Long) (s : State) : (writeCacr v s).ssp = s.ssp := by
  unfold writeCacr
  split <;> rfl

theorem writeCacr_sr (v : Long) (s : State) : (writeCacr v s).sr = s.sr := by
  unfold writeCacr
  split <;> rfl

/-- Nothing but CACR and, where EUSP goes from 0 to 1, USP and the number of values drawn. -/
theorem writeCacr_frame (v : Long) (s : State) :
    ({ writeCacr v s with cacr := s.cacr, usp := s.usp, freeIdx := s.freeIdx } : State) = s := by
  unfold writeCacr
  split <;> rfl

theorem writeCacr_usp (v : Long) (s : State)
    (h : uspPresent s.cfg = false ∨ s.cfg.hasEuspBit = false ∨ eusp s.cacr = true ∨ eusp v = false) :
    (writeCacr v s).usp = s.usp := by
  unfold writeCacr
  rw [if_neg]
  rcases h with h | h | h | h <;> simp [h]

/-! The table of R336. -/

/-- The numbers of the table. -/
def controlNumbers : List (BitVec 12) :=
  [0x002#12, 0x003#12, 0x004#12, 0x005#12, 0x006#12, 0x007#12, 0x008#12, 0x801#12, 0xC00#12, 0xC01#12, 0xC04#12, 0xC05#12,
    0xC0F#12]

theorem writeControl_outside {rc : BitVec 12} (h : rc ∉ controlNumbers) (v : Long) (s : State) :
    writeControl rc v s = none := by
  have hn (k : Nat) (hk : BitVec.ofNat 12 k ∈ controlNumbers) : rc.toNat ≠ k := by
    rintro rfl
    simp [h] at hk
  unfold writeControl
  dsimp only
  split
  all_goals first | rfl | (rename_i he; exact absurd he (hn _ (by decide)))

theorem vbrOf_eq (v : Long) : vbrOf v = v.extractLsb' 20 12 ++ 0#20 := by
  have hmask : ∀ i, i < 32 → (0xFFF00000#32).getLsbD i = decide (20 ≤ i) := by decide
  refine BitVec.eq_of_getLsbD_eq fun i hi => ?_
  rw [vbrOf, BitVec.getLsbD_and, hmask i hi, BitVec.getLsbD_append, BitVec.getLsbD_extractLsb']
  by_cases h : i < 20
  · simp [h]
  · simp [h, show 20 ≤ i by omega, show i - 20 < 12 by omega, show 20 + (i - 20) = i by omega]

theorem writeControl_cacr (v : Long) (s : State) : writeControl 0x002#12 v s = some (writeCacr v s) := rfl

theorem exec_movec_cacr {rn : Fin 16} {s : State} (hs : s.supervisor = true) (he : extReady 1 1 s = true) :
    exec (.movec rn 0x002#12) s = .next ((writeCacr (s.getR rn) s.synced).advanced 2) :=
  exec_movec_present hs he (writeControl_cacr _ _)

theorem writeCacr_sp {s : State} (hs : s.supervisor = true) (v : Long) : (writeCacr v s).sp = s.sp := by
  have ht : (writeCacr v s).supervisor = true := (State.supervisor_eq s _ (writeCacr_sr v s)).trans hs
  rw [sp_of_supervisor ht, writeCacr_ssp, sp_of_supervisor hs]

/-- Settles O42: the number decides the register, and its presence whether it is written. -/
theorem controlRegisterWrites : Obligations.ControlRegisterWrites := by
  intro rn rc s hs he v late mmu writes
  refine ⟨?_, ?_, ?_, ?_, ?_, ?_, ?_, ?_, ?_, ?_, ?_, ?_, ?_, fun hrc => ?_⟩
  · rintro rfl
    exact ⟨_, exec_movec_cacr hs he, writeCacr_cacr _ _, writeCacr_sp (s := s.synced) hs _,
      congrArg (State.advanced 2) (writeCacr_frame _ s.synced), writeCacr_usp _ s.synced⟩
  · rintro rfl
    exact movecWrites hs he rfl
  · rintro rfl
    exact movecWrites hs he rfl
  · rintro rfl
    exact movecWrites hs he rfl
  · rintro rfl
    exact movecWrites hs he rfl
  · rintro rfl
    exact movecWrites hs he rfl
  · rintro rfl
    exact movecWrites hs he rfl
  · rintro rfl
    rw [← vbrOf_eq]
    exact movecWrites hs he rfl
  · rintro rfl
    exact movecWrites hs he rfl
  · rintro rfl
    exact movecWrites hs he rfl
  · rintro rfl
    exact movecWrites hs he rfl
  · rintro rfl
    exact movecWrites hs he rfl
  · rintro rfl
    exact movecWrites hs he rfl
  · exact movecWrites hs he (writeControl_outside hrc _ _)

end Sys2Proof.Machine
end

section
/-! PROOFS. The reset sequence (spec 70_reset_and_hazards.md R430, R431), exception entry and return (60_exceptions.md R372 to R377,
R397; 47_system_control.md R325). -/

namespace Sys2Proof.Machine

-- One theorem after another: elaborating them side by side takes a thread each, and no less time.
set_option Elab.async false

/-! Reset. -/

/-- Settles O6: the fields of the reset state are written out. -/
theorem resetState : Obligations.ResetState := by
  refine ⟨?_, ?_, rfl, rfl, rfl, rfl, rfl, rfl, rfl⟩ <;> decide

theorem resetRegisters_supervisor (s : State) : (resetRegisters s).supervisor = true := by
  simp [State.supervisor, resetRegisters]

/-- After the registers are written A7 is the supervisor stack pointer. -/
theorem resetRegisters_setSp (s : State) (v : Long) :
    (resetRegisters s).setSp v = { resetRegisters s with ssp := v } :=
  setSp_of_single (by rw [resetRegisters_supervisor]; simp) v

/-- What the sequence comes to with both vectors, with a refused first and with a refused second vector. -/
theorem resetSequence_readable {s : State} (h0 : (resetRegisters s).refuses .read 0#32 4 = false)
    (h4 : (resetRegisters s).refuses .read 4#32 4 = false) :
    resetSequence s = { resetRegisters s with ssp := s.load 0#32 .long, pc := s.load 4#32 .long } := by
  have h4' : ((resetRegisters s).setSp ((resetRegisters s).load 0#32 .long)).refuses .read 4#32 4 = false := by
    simpa using h4
  simp only [resetSequence, tryLoad_ok _ _ h0, tryLoad_ok _ _ h4']
  rw [resetRegisters_setSp]
  rfl

theorem resetSequence_refused_first {s : State} (h0 : (resetRegisters s).refuses .read 0#32 4 = true) :
    resetSequence s = (resetRegisters s).faultOnFault 0#8 2#8 := by
  simp only [resetSequence, tryLoad_refused _ _ h0]

theorem resetSequence_refused_second {s : State} (h0 : (resetRegisters s).refuses .read 0#32 4 = false)
    (h4 : (resetRegisters s).refuses .read 4#32 4 = true) :
    resetSequence s = ({ resetRegisters s with ssp := s.load 0#32 .long } : State).faultOnFault 0#8 2#8 := by
  have h4' : ((resetRegisters s).setSp ((resetRegisters s).load 0#32 .long)).refuses .read 4#32 4 = true := by
    simpa using h4
  simp only [resetSequence, tryLoad_ok _ _ h0, tryLoad_refused _ _ h4']
  rw [resetRegisters_setSp]
  rfl

/-- In every case the sequence writes the registers reset writes, the supervisor stack pointer, the pc and the run state. -/
theorem resetSequence_shape (s : State) :
    ∃ p c r, resetSequence s = { resetRegisters s with ssp := p, pc := c, run := r } := by
  cases h0 : (resetRegisters s).refuses .read 0#32 4
  · cases h4 : (resetRegisters s).refuses .read 4#32 4
    · exact ⟨_, _, _, resetSequence_readable h0 h4⟩
    · exact ⟨_, _, _, resetSequence_refused_second h0 h4⟩
  · exact ⟨_, _, _, resetSequence_refused_first h0⟩

theorem resetRegisters_upper (s : State) : (resetRegisters s).sr.extractLsb' 8 8 = 0x27#8 := by
  refine BitVec.eq_of_getLsbD_eq fun i hi => ?_
  have hmask : (0x00FF#16).getLsbD (8 + i) = false ∧ (0x2700#16).getLsbD (8 + i) = (0x27#8).getLsbD i := by
    revert i
    decide
  simp only [resetRegisters, BitVec.getLsbD_extractLsb', BitVec.getLsbD_or, BitVec.getLsbD_and, hi, hmask, decide_true,
    Bool.true_and, Bool.and_false, Bool.or_false]

theorem resetRegisters_flags (s : State) : (resetRegisters s).flags = s.flags := by
  obtain ⟨hflags, -, -⟩ := srMask_low s.cfg
  have bit (i : Nat) (h : i < 5) : (resetRegisters s).sr.getLsbD i = s.sr.getLsbD i := by
    have hmask : (0x00FF#16).getLsbD i = true ∧ (0x2700#16).getLsbD i = false := by
      revert i
      decide
    simp only [resetRegisters, BitVec.getLsbD_or, BitVec.getLsbD_and, hmask, hflags i h, Bool.and_true, Bool.false_or]
  simp only [State.flags, Flags.ofWord, bit 4 (by decide), bit 3 (by decide), bit 2 (by decide), bit 1 (by decide),
    bit 0 (by decide)]

theorem resetRegisters_eusp (s : State) : eusp (resetRegisters s).cacr = false := by
  have hmask : (0xFFFFFFEF#32).getLsbD 4 = false := by decide
  rw [eusp, resetRegisters, BitVec.getLsbD_and, hmask, Bool.and_false]

/-- A7 of a state that differs from the reset registers outside SR only. -/
theorem resetRegisters_sp (s : State) (p c : Long) (r : RunState) :
    ({ resetRegisters s with ssp := p, pc := c, run := r } : State).sp = p :=
  sp_of_supervisor (s := { resetRegisters s with ssp := p, pc := c, run := r }) (resetRegisters_supervisor s)

/-! The statement: in a namespace of its own, as the model has a function `resetSequence`. -/

namespace Reset

/-- Settles O7: each case writes the reset registers and at most A7, the pc and the run state after them. -/
theorem resetSequence : Obligations.ResetSequence := by
  intro s
  refine ⟨fun h0 h4 => ?_, fun h0 => ?_, fun h0 h4 => ?_, ?_⟩
  · rw [resetSequence_readable h0 h4]
    exact ⟨resetRegisters_upper s, rfl, resetRegisters_eusp s, resetRegisters_sp s _ _ _, rfl, rfl, rfl⟩
  · rw [resetSequence_refused_first h0]
    rfl
  · rw [resetSequence_refused_second h0 h4]
    exact ⟨rfl, resetRegisters_sp s _ _ _⟩
  · obtain ⟨p, c, r, h⟩ := resetSequence_shape s
    rw [h]
    exact ⟨rfl, rfl, rfl, rfl, rfl, rfl, rfl, rfl, rfl, rfl, rfl, rfl, rfl, rfl, rfl, resetRegisters_flags s, rfl, rfl⟩

end Reset

end Sys2Proof.Machine
end

section
/-! PROOFS. Exception entry and return (spec 60_exceptions.md R372 to R377, R397; 47_system_control.md R325): the frame's two
longwords, its fields, and what RTE makes of them. -/

namespace Sys2Proof.Machine

-- One theorem after another: elaborating them side by side takes a thread each, and no less time.
set_option Elab.async false

/-! The bytes of an operand. -/

/-- An address lies in an operand when its distance from the operand's first byte is less than the operand's length. -/
theorem mem_spanOf_iff (a x : Long) {n : Nat} (hn : n ≤ 2 ^ 32) : x.toNat ∈ spanOf a n ↔ (x - a).toNat < n := by
  simp only [spanOf, List.mem_map, List.mem_range, BitVec.toNat_inj]
  constructor
  · rintro ⟨i, hi, rfl⟩
    rw [BitVec.add_comm, BitVec.add_sub_cancel, BitVec.toNat_ofNat, Nat.mod_eq_of_lt (by omega)]
    exact hi
  · intro h
    refine ⟨(x - a).toNat, h, ?_⟩
    rw [BitVec.ofNat_toNat, BitVec.setWidth_eq, BitVec.add_comm, BitVec.sub_add_cancel]

/-- An operand is read from its own bytes. -/
theorem loadOf_congr {m k : List Host.Cell} {a : Long} {sz : Size}
    (h : ∀ x : Long, x.toNat ∈ spanOf a sz.bytes → byteOf m x = byteOf k x) : loadOf m a sz = loadOf k a sz := by
  cases sz with
  | byte =>
    simp only [Size.bytes, spanOf_byte] at h
    simp only [loadOf, h a (by simp)]
  | word =>
    simp only [Size.bytes, spanOf_word] at h
    simp only [loadOf, h a (by simp), h (a + 1#32) (by simp)]
  | long =>
    simp only [Size.bytes, spanOf_long] at h
    simp only [loadOf, h a (by simp), h (a + 1#32) (by simp), h (a + 2#32) (by simp), h (a + 3#32) (by simp)]

/-- A store outside an operand. -/
theorem loadOf_storeOf_disjoint (m : List Host.Cell) {a b : Long} {sz z : Size} (v : Long)
    (h : ∀ x : Long, x.toNat ∈ spanOf a sz.bytes → x.toNat ∉ spanOf b z.bytes) :
    loadOf (storeOf m b z v) a sz = loadOf m a sz :=
  loadOf_congr fun x hx => byteOf_storeOf_frame m b x z v (h x hx)

/-! The frame. -/

/-- Memory after the two writes of the frame, the upper longword first. -/
def frameMem (m : List Host.Cell) (base upper lower : Long) : List Host.Cell :=
  storeOf (storeOf m (base + 4#32) .long upper) base .long lower

theorem frameMem_lower (m : List Host.Cell) (base upper lower : Long) :
    loadOf (frameMem m base upper lower) base .long = lower :=
  loadOf_storeOf _ _ _ _

theorem frameMem_upper (m : List Host.Cell) (base upper lower : Long) :
    loadOf (frameMem m base upper lower) (base + 4#32) .long = upper := by
  refine (loadOf_storeOf_disjoint _ _ fun x hx => ?_).trans (loadOf_storeOf _ _ _ _)
  rw [Size.bytes, mem_spanOf_iff _ _ (by decide)] at hx ⊢
  bv_omega

theorem frameMem_outside (m : List Host.Cell) {base a : Long} (upper lower : Long) (h : a.toNat ∉ spanOf base 8) :
    byteOf (frameMem m base upper lower) a = byteOf m a := by
  rw [mem_spanOf_iff _ _ (by decide)] at h
  refine (byteOf_storeOf_frame _ _ _ _ _ ?_).trans (byteOf_storeOf_frame _ _ _ _ _ ?_)
  · rw [Size.bytes, mem_spanOf_iff _ _ (by decide)]
    omega
  · rw [Size.bytes, mem_spanOf_iff _ _ (by decide)]
    bv_omega

/-- FORMAT: 4 plus the distance of the stack pointer from a multiple of 4 (R375). -/
theorem frame_format (sp : Long) : (4#4 + (sp.extractLsb' 0 2).setWidth 4).toNat = 4 + sp.toNat % 4 := by
  rw [BitVec.toNat_add, BitVec.toNat_setWidth, BitVec.extractLsb'_toNat, BitVec.toNat_ofNat]
  simp only [Nat.shiftRight_zero]
  omega

/-- The fields of the frame's first longword. -/
theorem frameWord_fields (sp : Long) (vec : Byte) (fs : BitVec 4) (sr : Word) :
    (frameWord sp vec fs sr).extractLsb' 0 16 = sr ∧ (frameWord sp vec fs sr).extractLsb' 16 2 = fs.extractLsb' 0 2 ∧
    (frameWord sp vec fs sr).extractLsb' 18 8 = vec ∧ (frameWord sp vec fs sr).extractLsb' 26 2 = fs.extractLsb' 2 2 ∧
    (frameWord sp vec fs sr).extractLsb' 28 4 = 4#4 + (sp.extractLsb' 0 2).setWidth 4 := by
  have skip {w : Nat} (k n l : Nat) (hi : BitVec w) (lo : BitVec l) : (hi ++ lo).extractLsb' (k + l) n = hi.extractLsb' k n :=
    (BitVec.extractLsb'_append_eq_of_le (Nat.le_add_left l k)).trans (by rw [Nat.add_sub_cancel])
  refine ⟨BitVec.extractLsb'_append_eq_right, ?_, ?_, ?_, ?_⟩
  · exact (skip 0 2 16 _ sr).trans BitVec.extractLsb'_append_eq_right
  · exact (skip 2 8 16 _ sr).trans ((skip 0 8 2 _ _).trans BitVec.extractLsb'_append_eq_right)
  · exact (skip 10 2 16 _ sr).trans ((skip 8 2 2 _ _).trans ((skip 0 2 8 _ vec).trans BitVec.extractLsb'_append_eq_right))
  · exact (skip 12 4 16 _ sr).trans ((skip 10 4 2 _ _).trans ((skip 2 4 8 _ vec).trans BitVec.extractLsb'_append_eq_left))

/-! SR during exception processing. -/

theorem entrySr_getLsbD (level : Option (BitVec 3)) (w : Word) {i : Nat} (h : i < 16) :
    (entrySr level w).getLsbD i =
      match level with
      | none => (w.getLsbD i && decide (i ≠ 15)) || decide (i = 13)
      | some l => (w.getLsbD i && (0x68FF#16).getLsbD i) || decide (i = 13) || (decide (8 ≤ i) && l.getLsbD (i - 8)) := by
  have h7 : (0x7FFF#16).getLsbD i = decide (i ≠ 15) := by
    revert i
    decide
  have h2 : (0x2000#16).getLsbD i = decide (i = 13) := by
    revert i
    decide
  cases level with
  | none => simp only [entrySr, BitVec.getLsbD_or, BitVec.getLsbD_and, h7, h2]
  | some l =>
    simp only [entrySr, BitVec.getLsbD_or, BitVec.getLsbD_and, h2, BitVec.getLsbD_shiftLeft, BitVec.getLsbD_setWidth, h,
      decide_true, Bool.true_and]
    by_cases h8 : i < 8
    · simp [h8, show ¬ 8 ≤ i by omega]
    · simp [h8, show 8 ≤ i by omega, show i - 8 < 16 by omega]

theorem entrySr_supervisor (level : Option (BitVec 3)) (w : Word) : (entrySr level w).getLsbD 13 = true := by
  rw [entrySr_getLsbD level w (by decide)]
  cases level <;> simp

theorem entrySr_trace (level : Option (BitVec 3)) (w : Word) : (entrySr level w).getLsbD 15 = false := by
  rw [entrySr_getLsbD level w (by decide)]
  cases level <;> simp

theorem entrySr_flags (level : Option (BitVec 3)) (w : Word) : Flags.ofWord (entrySr level w) = Flags.ofWord w := by
  have bit (i : Nat) (h : i < 5) : (entrySr level w).getLsbD i = w.getLsbD i := by
    have hm : (0x68FF#16).getLsbD i = true := by
      revert i
      decide
    rw [entrySr_getLsbD level w (by omega)]
    cases level <;> simp [hm, show i ≠ 15 by omega, show i ≠ 13 by omega, show ¬ 8 ≤ i by omega]
  simp only [Flags.ofWord, bit 4 (by decide), bit 3 (by decide), bit 2 (by decide), bit 1 (by decide), bit 0 (by decide)]

/-- An interrupt's level becomes the mask, and M is cleared. -/
theorem entrySr_interrupt (l : BitVec 3) (w : Word) :
    (entrySr (some l) w).extractLsb' 8 3 = l ∧ (entrySr (some l) w).getLsbD 12 = false := by
  refine ⟨BitVec.eq_of_getLsbD_eq fun i hi => ?_, ?_⟩
  · have hm : (0x68FF#16).getLsbD (8 + i) = false := by
      revert i
      decide
    rw [BitVec.getLsbD_extractLsb', entrySr_getLsbD _ w (by omega)]
    simp [hi, hm, show 8 + i ≠ 13 by omega]
  · rw [entrySr_getLsbD _ w (by decide)]
    simp

/-- Any other exception leaves the mask and M. -/
theorem entrySr_exception (w : Word) :
    (entrySr none w).extractLsb' 8 3 = w.extractLsb' 8 3 ∧ (entrySr none w).getLsbD 12 = w.getLsbD 12 := by
  refine ⟨BitVec.eq_of_getLsbD_eq fun i hi => ?_, ?_⟩
  · rw [BitVec.getLsbD_extractLsb', BitVec.getLsbD_extractLsb', entrySr_getLsbD _ w (by omega)]
    simp [hi, show 8 + i ≠ 13 by omega, show 8 + i ≠ 15 by omega]
  · rw [entrySr_getLsbD _ w (by decide)]
    simp

theorem entered_supervisor (level : Option (BitVec 3)) (s : State) : (s.entered level).supervisor = true :=
  entrySr_supervisor level s.sr

/-! The entry. -/

/-- The state after an entry that no access refuses. -/
theorem enter_ready {vec : Byte} {spc : Long} {fs : BitVec 4} {level : Option (BitVec 3)} {s : State}
    (h0 : (s.entered level).refuses .write (frameBase (s.entered level).sp) 4 = false)
    (h4 : (s.entered level).refuses .write (frameBase (s.entered level).sp + 4#32) 4 = false)
    (hv : (s.entered level).refuses .read (vectorAddress s.vbr vec) 4 = false) :
    ∃ u, u = (((s.entered level).store (frameBase (s.entered level).sp + 4#32) .long spc).store
        (frameBase (s.entered level).sp) .long (frameWord (s.entered level).sp vec fs s.sr)).setSp
          (frameBase (s.entered level).sp) ∧
      enter vec spc fs level s =
        { u with pc := u.load (vectorAddress s.vbr vec) .long, inhibit := true, run := .running, firstFetch := some vec } := by
  rcases enter_cases vec spc fs level s with ⟨h, -⟩ | ⟨-, h, -⟩ | ⟨-, -, h, -⟩ | ⟨-, -, -, h⟩
  · rw [h4] at h
    cases h
  · rw [h0] at h
    cases h
  · rw [hv] at h
    cases h
  · exact ⟨_, rfl, h⟩

theorem enter_mem {vec : Byte} {spc : Long} {fs : BitVec 4} {level : Option (BitVec 3)} {s : State}
    (h0 : (s.entered level).refuses .write (frameBase (s.entered level).sp) 4 = false)
    (h4 : (s.entered level).refuses .write (frameBase (s.entered level).sp + 4#32) 4 = false)
    (hv : (s.entered level).refuses .read (vectorAddress s.vbr vec) 4 = false) :
    (enter vec spc fs level s).mem =
      frameMem s.mem (frameBase (s.entered level).sp) spc (frameWord (s.entered level).sp vec fs s.sr) := by
  obtain ⟨u, hu, h⟩ := enter_ready (spc := spc) (fs := fs) h0 h4 hv
  rw [h, hu]
  simp [frameMem, State.entered]

/-- Settles O48: the frame's memory, its fields, and the fields of SR. -/
theorem exceptionEntry : Obligations.ExceptionEntry := by
  intro vec spc fs level s e base t h0 h4 hv
  obtain ⟨u, hu, ht⟩ := enter_ready (spc := spc) (fs := fs) (vec := vec) (level := level) (s := s) h0 h4 hv
  have hmem : t.mem = frameMem s.mem base spc (frameWord e.sp vec fs s.sr) := enter_mem h0 h4 hv
  have hsr : t.sr = entrySr level s.sr := enter_sr _ _ _ _ _
  have hsp : t.sp = base := by
    rw [show t.sp = u.sp by rw [show t = _ from ht]; rfl, hu, State.setSp_sp]
    rfl
  have hother : t.otherSp = e.otherSp := by
    rw [show t.otherSp = u.otherSp by rw [show t = _ from ht]; rfl, hu, State.setSp_otherSp]
    rfl
  have hlow : t.load base .long = frameWord e.sp vec fs s.sr := by
    rw [State.load, hmem, frameMem_lower]
  have hup : t.load (base + 4#32) .long = spc := by
    rw [State.load, hmem, frameMem_upper]
  obtain ⟨f0, f16, f18, f26, f28⟩ := frameWord_fields e.sp vec fs s.sr
  rw [hlow, hup, f0, f16, f18, f26, f28, frame_format]
  refine ⟨hsp, ?_, ?_, ?_, ?_, ?_, rfl, rfl, ?_, rfl, rfl, ?_, ?_, ?_, enter_d _ _ _ _ _, enter_a _ _ _ _ _,
    enter_control _ _ _ _ _, hother, fun a ha => ?_⟩
  · rw [State.supervisor, hsr, entrySr_supervisor]
  · rw [State.trace, hsr, entrySr_trace]
  · rw [State.flags, hsr, entrySr_flags]
    rfl
  · rintro l rfl
    rw [State.mask, hsr]
    exact entrySr_interrupt l s.sr
  · rintro rfl
    rw [State.mask, hsr]
    exact entrySr_exception s.sr
  · rw [BitVec.extractLsb'_append_extractLsb'_eq_extractLsb' (by decide)]
    exact BitVec.extractLsb'_eq_self
  · rw [show t = _ from ht]
    rfl
  · rw [show t = _ from ht]
  · rw [show t = _ from ht]
  · rw [State.byteAt, hmem, frameMem_outside _ _ _ ha]
    rfl

/-! Fault on fault. -/

/-- A refused write of the frame leaves the stack pointer. -/
theorem enter_refused_write {vec : Byte} {spc : Long} {fs : BitVec 4} {level : Option (BitVec 3)} {s : State}
    (h : (s.entered level).refuses .write (frameBase (s.entered level).sp) 4 = true ∨
      (s.entered level).refuses .write (frameBase (s.entered level).sp + 4#32) 4 = true) :
    (enter vec spc fs level s).run = .halted (.faultOnFault vec 2#8) ∧
      (enter vec spc fs level s).sp = (s.entered level).sp := by
  rcases enter_cases vec spc fs level s with ⟨-, g⟩ | ⟨-, -, g⟩ | ⟨h4, h0, -⟩ | ⟨h4, h0, -⟩
  · rw [g]
    exact ⟨rfl, rfl⟩
  · rw [g]
    exact ⟨rfl, rfl⟩
  all_goals
    rw [h0, h4] at h
    simp at h

/-- A refused read of the vector comes after the stack pointer was set. -/
theorem enter_refused_read {vec : Byte} {spc : Long} {fs : BitVec 4} {level : Option (BitVec 3)} {s : State}
    (h0 : (s.entered level).refuses .write (frameBase (s.entered level).sp) 4 = false)
    (h4 : (s.entered level).refuses .write (frameBase (s.entered level).sp + 4#32) 4 = false)
    (hv : (s.entered level).refuses .read (vectorAddress s.vbr vec) 4 = true) :
    (enter vec spc fs level s).run = .halted (.faultOnFault vec 2#8) ∧
      (enter vec spc fs level s).sp = frameBase (s.entered level).sp := by
  rcases enter_cases vec spc fs level s with ⟨g, -⟩ | ⟨-, g, -⟩ | ⟨-, -, -, g⟩ | ⟨-, -, g, -⟩
  · rw [h4] at g
    cases g
  · rw [h0] at g
    cases g
  · rw [g]
    exact ⟨rfl, State.setSp_sp _ _⟩
  · rw [hv] at g
    cases g

/-- Settles O50: the three accesses of an entry in their order. -/
theorem faultOnFault : Obligations.FaultOnFault := by
  intro vec spc fs level s e base t
  refine ⟨fun hw => ?_, fun h0 h4 hv => ?_⟩
  · obtain ⟨hrun, hsp⟩ := enter_refused_write (vec := vec) (spc := spc) (fs := fs) hw
    exact ⟨hrun, enter_sr _ _ _ _ _, hsp, enter_d _ _ _ _ _, enter_a _ _ _ _ _⟩
  · obtain ⟨hrun, hsp⟩ := enter_refused_read (vec := vec) (spc := spc) (fs := fs) h0 h4 hv
    exact ⟨hrun, enter_sr _ _ _ _ _, hsp⟩

/-! Entry and return. -/

/-- The stack pointer rounded down to a multiple of 4. -/
theorem toNat_aligned (sp : Long) : (sp &&& 0xFFFFFFFC#32).toNat = sp.toNat / 4 * 4 := by
  have hmask : ∀ i, i < 32 → (0xFFFFFFFC#32).getLsbD i = decide (2 ≤ i) := by decide
  have hshift : sp &&& 0xFFFFFFFC#32 = (sp >>> 2) <<< 2 := by
    refine BitVec.eq_of_getLsbD_eq fun i hi => ?_
    rw [BitVec.getLsbD_and, hmask i hi, BitVec.getLsbD_shiftLeft, BitVec.getLsbD_ushiftRight]
    by_cases h : i < 2
    · simp [h]
    · simp [h, hi, show 2 ≤ i by omega, show 2 + (i - 2) = i by omega]
  have := sp.isLt
  rw [hshift, BitVec.toNat_shiftLeft, BitVec.toNat_ushiftRight, Nat.shiftLeft_eq, Nat.shiftRight_eq_div_pow]
  omega

/-- The frame and the distance that FORMAT counts lead back to the stack pointer. -/
theorem frameBase_back (sp : Long) : frameBase sp + 8#32 + BitVec.ofNat 32 (sp.toNat % 4) = sp := by
  have h := toNat_aligned sp
  refine BitVec.eq_of_toNat_eq ?_
  rw [frameBase, BitVec.sub_add_cancel, BitVec.toNat_add, h, BitVec.toNat_ofNat]
  have := sp.isLt
  omega

/-- In supervisor mode the supervisor stack pointer is written. -/
theorem setSp_of_supervisor {s : State} (h : s.supervisor = true) (v : Long) : s.setSp v = { s with ssp := v } :=
  setSp_of_single (by rw [h]; simp) v

theorem setSp_usp_of_supervisor {s : State} (h : s.supervisor = true) (v : Long) : (s.setSp v).usp = s.usp := by
  rw [setSp_of_supervisor h]

/-- What the return makes of the frame of an entry. -/
theorem rte_after_frame {s : State} {spc : Long} {sp : Long} {vec : Byte} {fs : BitVec 4} {sr : Word}
    (hs : s.supervisor = true) (hsp : s.sp = frameBase sp)
    (h0 : s.refuses .read (frameBase sp) 4 = false) (h4 : s.refuses .read (frameBase sp + 4#32) 4 = false)
    (hlow : s.load (frameBase sp) .long = frameWord sp vec fs sr) (hup : s.load (frameBase sp + 4#32) .long = spc) :
    exec .rte s = .next { s with ssp := sp, sr := sr &&& srMask s.cfg, pc := spc, unsynced := [] } := by
  obtain ⟨f0, -, -, -, f28⟩ := frameWord_fields sp vec fs sr
  have hfmt : ((s.load s.sp .long).extractLsb' 28 4).toNat = 4 + sp.toNat % 4 := by
    rw [hsp, hlow, f28, frame_format]
  have h := (ExceptionReturn.returnFromException s hs (hsp ▸ h0) (hsp ▸ h4)).1 (by rw [hfmt]; omega) (by rw [hfmt]; omega)
  rw [h, hfmt, Nat.add_sub_cancel_left, hsp, frameBase_back, hlow, f0, hup, setSp_of_supervisor hs]

theorem enter_usp (vec : Byte) (spc : Long) (fs : BitVec 4) (level : Option (BitVec 3)) (s : State) :
    (enter vec spc fs level s).usp = s.usp := by
  have hs := entered_supervisor level s
  rcases enter_cases vec spc fs level s with ⟨-, h⟩ | ⟨-, -, h⟩ | ⟨-, -, -, h⟩ | ⟨-, -, -, h⟩ <;> rw [h]
  · rfl
  · rfl
  · exact setSp_usp_of_supervisor (by exact hs) _
  · exact setSp_usp_of_supervisor (by exact hs) _

/-- The active stack pointer is decided by the mode, CACR and the configuration. -/
theorem sp_congr {s t : State} (hc : t.cfg = s.cfg) (hk : t.cacr = s.cacr) (hs : t.sr = s.sr) (hp : t.ssp = s.ssp)
    (hu : t.usp = s.usp) : t.sp = s.sp := by
  simp only [State.sp, State.dualSp_eq s t hc hk, State.supervisor_eq s t hs, hp, hu]

theorem enter_cacr (vec : Byte) (spc : Long) (fs : BitVec 4) (level : Option (BitVec 3)) (s : State) :
    (enter vec spc fs level s).cacr = s.cacr := by
  have h := enter_control vec spc fs level s
  simp only [State.control, List.cons.injEq] at h
  exact h.2.1

/-- Settles O49: the entry leaves A7 at a frame that RTE reads back; the stack pointers are those before whatever the mode. -/
theorem entryThenReturn : Obligations.EntryThenReturn := by
  intro vec spc fs level s e base hinv h0 h4 r0 r4 hv
  have hmem := enter_mem (spc := spc) (fs := fs) (vec := vec) (level := level) (s := s) h0 h4 hv
  have hsr := enter_sr vec spc fs level s
  have hcfg := enter_cfg vec spc fs level s
  have hs : (enter vec spc fs level s).supervisor = true := by rw [State.supervisor, hsr, entrySr_supervisor]
  have hsp : (enter vec spc fs level s).sp = base := by
    obtain ⟨u, hu, ht⟩ := enter_ready (spc := spc) (fs := fs) (vec := vec) (level := level) (s := s) h0 h4 hv
    rw [ht, hu]
    exact State.setSp_sp _ _
  have hrefuses (a : Long) : (enter vec spc fs level s).refuses .read a 4 = e.refuses .read a 4 :=
    State.refuses_eq e _ hcfg (State.supervisor_eq e _ hsr) _ _ _
  have hsp0 : e.sp = s.ssp := sp_of_supervisor (entered_supervisor level s)
  have hrte := rte_after_frame (spc := spc) (vec := vec) (fs := fs) (sr := s.sr) hs hsp ((hrefuses _).trans r0)
    ((hrefuses _).trans r4) (by rw [State.load, hmem]; exact frameMem_lower _ _ _ _)
    (by rw [State.load, hmem]; exact frameMem_upper _ _ _ _)
  have hsr' : s.sr &&& srMask (enter vec spc fs level s).cfg = s.sr := by rw [hcfg, hinv.srBits]
  rw [hsr', hsp0] at hrte
  exact ⟨_, hrte, rfl, rfl, sp_congr hcfg (enter_cacr _ _ _ _ _) rfl rfl (enter_usp _ _ _ _ _), rfl, enter_usp _ _ _ _ _,
    enter_d _ _ _ _ _, enter_a _ _ _ _ _, enter_control _ _ _ _ _⟩

end Sys2Proof.Machine
end

section
/-! PROOFS. One step (spec 60_exceptions.md R388, R390, R391, R396 to R398; 30_encoding.md R114): the instruction at the pc, what is
unassigned, interrupts and trace. -/

namespace Sys2Proof.Machine

-- One theorem after another: elaborating them side by side takes a thread each, and no less time.
set_option Elab.async false

/-! What a fetch leads to. -/

/-- The state an instruction starts in. -/
def State.started (s : State) : State := { s.pastBoundary with inhibit := false, firstFetch := none }

/-- An exception of the fetch is entered from the state the instruction would have started in. -/
theorem runInstruction_raise {t : State} {e : Exc} (h : fetchInstr { t with inhibit := false } = .raise e) :
    runInstruction t =
      .next (enter e.vector (e.stackedPc t.pc) (e.faultStatus t.cfg) none
        { t with inhibit := false, firstFetch := none }) := by
  rw [runInstruction]
  simp only [h]
  cases e <;> rfl

section
variable {s : State} (hrun : s.run = .running) (hfaults : s.writeFaults = []) (hirq : s.noInterrupt)
include hrun hfaults hirq

theorem step_of_instr {i : Instr} (h : fetchInstr s = .instr i) : step s = traced s.trace (exec i s.started) := by
  rw [← fetchInstr_pastBoundary] at h
  rw [step_noInterrupt s hrun hfaults hirq, runInstruction]
  simp only [h, State.pastBoundary_trace]
  rw [show exec i { s.pastBoundary with inhibit := false, firstFetch := none } = exec i s.started from rfl]
  cases exec i s.started <;> rfl

theorem step_of_raise {e : Exc} (h : fetchInstr s = .raise e) :
    step s = .next (enter e.vector (e.stackedPc s.pc) (e.faultStatus s.cfg) none s.started) := by
  rw [← fetchInstr_pastBoundary] at h
  rw [step_noInterrupt s hrun hfaults hirq, runInstruction_raise h]
  exact congrArg₂ (fun p c => Host.Outcome.next (enter e.vector (e.stackedPc p) (e.faultStatus c) none s.started))
    s.pastBoundary_pc s.pastBoundary_cfg

theorem step_of_refuse {r : Refusal} (h : fetchInstr s = .refuse r) : step s = .refused r := by
  rw [← fetchInstr_pastBoundary] at h
  rw [step_noInterrupt s hrun hfaults hirq, runInstruction]
  simp only [h]

theorem step_of_dead {x y : Byte} (h : fetchInstr s = .dead x y) :
    step s = .next (({ s.pastBoundary with inhibit := false } : State).faultOnFault x y) := by
  rw [← fetchInstr_pastBoundary] at h
  rw [step_noInterrupt s hrun hfaults hirq, runInstruction]
  simp only [h]

end

/-- The decoded instruction, where the configuration has it. -/
theorem recognized_of_decode {s : State} {i : Instr} {rest : List Word} (hd : decode (s.words s.pc) = .ok (i, rest))
    (ha : assigned s.cfg i = true) : recognized s = some i := by
  simp only [recognized, hd, ha, if_true]

theorem fetchInstr_of_decode {s : State} {i : Instr} {rest : List Word} (ho : s.opcodeReady)
    (hd : decode (s.words s.pc) = .ok (i, rest)) (ha : assigned s.cfg i = true) : fetchInstr s = .instr i := by
  rw [fetchInstr_ready s ho, recognize, recognized_of_decode hd ha]

/-- Settles O8: with its words within reach the decoded instruction is what is fetched. -/
theorem stepRunsDecodedInstruction : Obligations.StepRunsDecodedInstruction := by
  intro s i rest hrun hfaults hirq hodd hfetch hdirty hsecond hd ha
  refine ⟨decode_wf _ _ _ hd, ?_⟩
  rw [step_of_instr hrun hfaults hirq (fetchInstr_of_decode ⟨⟨hodd, hfetch, hdirty⟩, hsecond⟩ hd ha)]
  rfl

/-! Trace. -/

theorem traceAfter_quiet {t : State} (h : t.quiet) (b : Bool) :
    traceAfter b t = if b then enter 9#8 t.pc 0#4 none t else t := by
  obtain ⟨hi, hr⟩ := h
  simp [traceAfter, hi, hr]

theorem traceAfter_not_quiet {t : State} (h : ¬t.quiet) (b : Bool) : traceAfter b t = t := by
  unfold traceAfter
  rw [if_neg]
  intro hc
  simp only [Bool.and_eq_true, Bool.not_eq_true', decide_eq_true_eq] at hc
  obtain ⟨⟨-, hi⟩, hr⟩ := hc
  exact h ⟨hi, hr⟩

namespace TraceException

/-- Settles O55: the T bit from before the instruction, and only after an instruction that took no exception and goes on. -/
theorem trace : Obligations.Trace := by
  intro s t i rest hrun hfaults hirq ho hd ha hexec
  have hstep : step s = .next (traceAfter s.trace t) := by
    rw [step_of_instr hrun hfaults hirq (fetchInstr_of_decode ho hd ha), State.started, hexec]
    rfl
  refine ⟨fun hq => ⟨fun ht => ?_, fun ht => ?_⟩, fun hq => ?_⟩
  · rw [hstep, traceAfter_quiet hq, ht, if_pos rfl]
  · rw [hstep, traceAfter_quiet hq, ht, if_neg Bool.false_ne_true]
  · rw [hstep, traceAfter_not_quiet hq]

end TraceException

/-! Unassigned opwords. -/

/-- The line of an opword is its upper four bits. -/
theorem line_iff (w : Word) (k : BitVec 4) : w.extractLsb' 12 4 = k ↔ w.toNat / 4096 = k.toNat := by
  have := w.isLt
  rw [← BitVec.toNat_inj, BitVec.extractLsb'_toNat, Nat.shiftRight_eq_div_pow]
  omega

/-- The opwords of the FPU. -/
theorem fpu_iff (w : Word) : (w.toNat &&& 0xFE00 == 0xF200) = decide (w.extractLsb' 9 7 = 0x79#7) := by
  have hland : w.toNat &&& 0xFE00 = 512 * (w.toNat / 512 % 128) := land_field w.toNat 9 7
  rw [Bool.eq_iff_iff, beq_iff_eq, decide_eq_true_iff, hland, ← BitVec.toNat_inj, BitVec.extractLsb'_toNat,
    Nat.shiftRight_eq_div_pow]
  simp only [BitVec.toNat_ofNat]
  omega

theorem unassignedEffect_lineA (cfg : Config) {w : Nat} (h : w / 4096 = 0xA) :
    unassignedEffect cfg w = if cfg.hasMac || cfg.hasEmac || cfg.hasEmacB then .refuse .mac else .raise .lineA :=
  if_pos h

theorem unassignedEffect_lineF (cfg : Config) {w : Nat} (h : w / 4096 = 0xF) :
    unassignedEffect cfg w = if w &&& 0xFE00 == 0xF200 && cfg.hasFpu then .refuse .fpu else .raise .lineF :=
  (if_neg (by omega)).trans (if_pos h)

theorem unassignedEffect_other (cfg : Config) {w : Nat} (hA : w / 4096 ≠ 0xA) (hF : w / 4096 ≠ 0xF) :
    unassignedEffect cfg w = if cfg.reserved = .trap then .raise .illegalInstruction else .refuse .unassigned := by
  rw [unassignedEffect, if_neg hA, if_neg hF]
  cases cfg.reserved <;> rfl

/-- Settles O53: an unrecognized opword by its line. -/
theorem unassignedOpwords : Obligations.UnassignedOpwords := by
  intro s hrun hfaults hirq ho hrec b line mac fpu
  have hfetch : fetchInstr s = unassignedEffect s.cfg (s.word s.pc).toNat := by
    rw [fetchInstr_ready s ho, recognize, hrec]
  have hline (k : BitVec 4) : line = k ↔ (s.word s.pc).toNat / 4096 = k.toNat := line_iff _ k
  have hfpu : ((s.word s.pc).toNat &&& 0xFE00 == 0xF200 && s.cfg.hasFpu) = fpu := by rw [fpu_iff, Bool.and_comm]
  refine ⟨fun hA => ?_, fun hF => ?_, fun hA hF => ?_⟩
  · rw [unassignedEffect_lineA _ ((hline _).mp hA)] at hfetch
    exact ⟨fun hm => step_of_raise (e := .lineA) hrun hfaults hirq (hfetch.trans (if_neg (ne_true_of_eq_false hm))),
      fun hm => step_of_refuse hrun hfaults hirq (hfetch.trans (if_pos hm))⟩
  · rw [unassignedEffect_lineF _ ((hline _).mp hF), hfpu] at hfetch
    exact ⟨fun hf => step_of_raise (e := .lineF) hrun hfaults hirq (hfetch.trans (if_neg (ne_true_of_eq_false hf))),
      fun hf => step_of_refuse hrun hfaults hirq (hfetch.trans (if_pos hf))⟩
  · rw [unassignedEffect_other _ (mt (hline 0xA#4).mpr hA) (mt (hline 0xF#4).mpr hF)] at hfetch
    refine ⟨fun hr => step_of_raise (e := .illegalInstruction) hrun hfaults hirq (hfetch.trans (if_pos hr)), fun hr => ?_⟩
    exact step_of_refuse hrun hfaults hirq (hfetch.trans (if_neg (by rw [hr]; rintro ⟨⟩)))

/-! Interrupts. -/

theorem step_running {s : State} (h : s.run = .running) (hw : s.writeFaults = []) : step s = runBoundary s := by
  simp [step, cycle, runStep, h, hw]

theorem step_stopped {s : State} (h : s.run = .stopped) : step s = .next (stoppedStep s) := by
  simp [step, cycle, h]

/-- Settles O54: the boundary by the run state and the request. -/
theorem interrupts : Obligations.Interrupts := by
  intro s
  refine ⟨fun r hq ha => ⟨fun hrun hfaults hi => ?_, fun hrun => ?_⟩, fun hrun hq => ?_, fun why hrun => ?_, fun r h => ?_,
    fun r hl h => ?_, fun r hl h => ?_, fun r hl h hm => ?_⟩
  · rw [step_running hrun hfaults, runBoundary]
    simp [hi, hq, ha, takeInterrupt]
  · rw [step_stopped hrun, stoppedStep]
    simp [hq, ha, takeInterrupt]
  · rw [step_stopped hrun, stoppedStep]
    cases hr : s.request with
    | none => rfl
    | some r => simp [hq r hr]
  · simp [step, cycle, hrun]
  · simp [acceptable, h]
  · simp [acceptable, hl, h]
  · simp [acceptable, hl, h]
  · simp [acceptable, hl, h, hm]

end Sys2Proof.Machine
end

section
/-! PROOFS. Frames: what an instruction that takes no exception leaves unchanged. Every part of an instruction that comes to a value
changes only what the form of the instruction names. -/

namespace Sys2Proof.Machine

-- One theorem after another: elaborating them side by side takes a thread each, and no less time.
set_option Elab.async false

/-! The changes within a frame. -/

theorem Frame.refl (ds as : List (Fin 8)) (bytes : List Nat) (s : State) : Frame ds as bytes s s :=
  ⟨fun _ _ => rfl, fun _ _ => rfl, rfl, fun _ _ => rfl, rfl, rfl, ⟨rfl, rfl, rfl, rfl⟩, rfl, rfl⟩

/-- A property that survives changes of the data registers `ds`, the address registers `as` and the bytes `bytes`, and of what no
frame speaks of: the pc, the stored addresses and the pending write faults. -/
structure Within (ds as : List (Fin 8)) (bytes : List Nat) (P : State → Prop) : Prop where
  setD : ∀ t n v, n ∈ ds → P t → P (t.setD n v)
  setA : ∀ t n v, n ∈ as → P t → P (t.setA n v)
  store : ∀ t a sz v, (∀ x ∈ spanOf a sz.bytes, x ∈ bytes) → P t → P (t.store a sz v)
  pc : ∀ t v, P t → P { t with pc := v }
  synced : ∀ t, P t → P t.synced
  writeFaults : ∀ t fs, P t → P { t with writeFaults := fs }

section
variable {ds as : List (Fin 8)} {bytes : List Nat} {s t : State}

theorem Frame.setD (h : Frame ds as bytes s t) {n : Fin 8} (hn : n ∈ ds) (v : Long) : Frame ds as bytes s (t.setD n v) :=
  { h with
    data := fun m hm => by
      rw [State.getD_setD, if_neg (fun he : n = m => hm (he ▸ hn))]
      exact h.data m hm }

theorem Frame.setA (h : Frame ds as bytes s t) {n : Fin 8} (hn : n ∈ as) (v : Long) : Frame ds as bytes s (t.setA n v) where
  data m hm := (State.setA_getD t n v m).trans (h.data m hm)
  address m hm := by
    rw [State.getA_setA, if_neg (fun he : n = m => hm (he ▸ hn))]
    exact h.address m hm
  otherSp := (State.setA_otherSp t n v).trans h.otherSp
  memory a ha := by
    rw [State.byteAt, State.setA_mem]
    exact h.memory a ha
  status := by
    rw [State.setA_sr]
    exact h.status
  control := (State.setA_control t n v).trans h.control
  inputs := by
    rw [State.setA_irq, State.setA_irq7, State.setA_deliver, State.setA_freeIdx]
    exact h.inputs
  config := (State.setA_cfg t n v).trans h.config
  run := (State.setA_run t n v).trans h.run

theorem Frame.store (h : Frame ds as bytes s t) {a : Long} {sz : Size} (hb : ∀ x ∈ spanOf a sz.bytes, x ∈ bytes) (v : Long) :
    Frame ds as bytes s (t.store a sz v) :=
  { h with
    memory := fun b hmem => (byteOf_storeOf_frame _ _ _ _ _ fun hx => hmem (hb _ hx)).trans (h.memory b hmem) }

theorem Frame.setFlags (h : Frame ds as bytes s t) (f : Flags) : Frame ds as bytes s (t.setFlags f) :=
  { h with
    address := fun m hm => (State.setFlags_getA t f m).trans (h.address m hm)
    otherSp := by
      rw [← h.otherSp, State.otherSp, State.setFlags_supervisor]
      rfl
    status := (f.into_upper t.sr).trans h.status }

theorem within_frame : Within ds as bytes (Frame ds as bytes s) where
  setD _ _ v hn h := h.setD hn v
  setA _ _ v hn h := h.setA hn v
  store _ _ _ v hb h := h.store hb v
  pc _ _ h := { h with }
  synced _ h := { h with }
  writeFaults _ _ h := { h with }

/-- A frame in which the flags are kept too. -/
theorem within_frame_sr : Within ds as bytes fun t => Frame ds as bytes s t ∧ t.sr = s.sr where
  setD _ _ v hn h := ⟨h.1.setD hn v, h.2⟩
  setA t n v hn h := ⟨h.1.setA hn v, (State.setA_sr t n v).trans h.2⟩
  store _ _ _ v hb h := ⟨h.1.store hb v, h.2⟩
  pc _ _ h := ⟨{ h.1 with }, h.2⟩
  synced _ h := ⟨{ h.1 with }, h.2⟩
  writeFaults _ _ h := ⟨{ h.1 with }, h.2⟩

end

/-! The parts of an instruction that come to a value. -/

/-- Where the part comes to a value its state has the property. -/
def Res.Leaves {α : Type} (P : State → Prop) : Res α → Prop
  | .ok _ t => P t
  | .raise _ _ | .refuse _ | .fault _ => True

/-- The outcome is that of a part that leaves the property. -/
def Completes (P : State → Prop) (o : Host.Outcome State Fault Refusal) : Prop := ∃ s0 r, o = finish s0 r ∧ r.Leaves P

theorem Res.Leaves.completes {P : State → Prop} {s0 : State} {r : Res Unit} (h : r.Leaves P) : Completes P (finish s0 r) :=
  ⟨s0, r, rfl, h⟩

/-- An instruction that took no exception came to a value. -/
theorem Completes.quiet {P : State → Prop} {o : Host.Outcome State Fault Refusal} {t : State} (h : Completes P o)
    (ho : o = .next t) (q : t.quiet) : P t := by
  obtain ⟨s0, r, rfl, hr⟩ := h
  rw [finish_quiet ho q] at hr
  exact hr

section
variable {α : Type} {P : State → Prop}

theorem fetchExt_leaves {off n : Nat} {s : State} {k : Unit → State → Res α} (h : (k () s).Leaves P) :
    ((fetchExt off n s).bind k).Leaves P := by
  rcases fetchExt_cases off n s with g | g | g <;> rw [g]
  · exact h
  · trivial
  · trivial

theorem readEa_leaves {sz : Size} {off : Nat} {ea : Ea} {s : State} {k : Long → State → Res α}
    (h : (k (sourceValue sz ea s) (eaUpdate sz ea s)).Leaves P) : ((readEa sz off ea s).bind k).Leaves P := by
  rcases readEa_cases sz off ea s with g | ⟨e, t, g, -⟩ | g | ⟨g, -⟩ <;> rw [g]
  · exact h
  · trivial
  · trivial
  · trivial

theorem eaAddr_leaves {sz : Size} {off : Nat} {ea : Ea} {s : State} {k : Long → State → Res α}
    (h : (k (eaAddress sz ea s) (eaUpdate sz ea s)).Leaves P) : ((eaAddr sz off ea s).bind k).Leaves P := by
  rcases eaAddr_cases sz off ea s with g | g | ⟨g, -⟩ | g | ⟨g, -⟩ <;> rw [g]
  · exact h
  · trivial
  · trivial
  · trivial
  · trivial

theorem loadMem_leaves {a : Long} {sz : Size} {s : State} {k : Long → State → Res α} (h : (k (s.load a sz) s).Leaves P) :
    ((loadMem a sz s).bind k).Leaves P := by
  rcases loadMem_cases a sz s with g | g <;> rw [g]
  · exact h
  · trivial

theorem privileged_leaves {s : State} {k : State → Res Unit} (h : (k s).Leaves P) : (privileged s k).Leaves P := by
  unfold privileged
  split
  · exact h
  · trivial

variable {ds as : List (Fin 8)} {bytes : List Nat} (hP : Within ds as bytes P)
include hP

theorem advance_leaves {n : Nat} {s : State} (h : P s) : (advance n s).Leaves P := hP.pc s _ h

theorem jumpTo_leaves {a : Long} {s : State} (h : P s) : (jumpTo a s).Leaves P := hP.pc s a h

theorem Within.setSp {s : State} (h7 : 7 ∈ as) (v : Long) (h : P s) : P (s.setSp v) :=
  State.setA_seven s 7 v (by decide) ▸ hP.setA s 7 v h7 h

theorem Within.eaUpdate {sz : Size} {ea : Ea} {s : State} (hu : ∀ n ∈ eaUpdates ea, n ∈ as) (h : P s) :
    P (eaUpdate sz ea s) := by
  cases ea with
  | postinc n | predec n => exact hP.setA s n _ (hu n (List.mem_singleton_self n)) h
  | dreg | areg | ind | disp | index | absW | absL | pcDisp | pcIndex | imm => exact h

/-- A destination's own registers and bytes lie in the frame. -/
structure Holds (ds as : List (Fin 8)) (bytes : List Nat) (sz : Size) (ea : Ea) (s : State) : Prop where
  data : ∀ n ∈ destD ea, n ∈ ds
  address : ∀ n ∈ destA ea, n ∈ as
  updates : ∀ n ∈ eaUpdates ea, n ∈ as
  stored : ∀ x ∈ storedBytes sz ea s, x ∈ bytes

theorem Within.written {sz : Size} {ea : Ea} {v : Long} {s : State} (hw : ∀ w, ea ≠ .imm w)
    (hd : Holds ds as bytes sz ea s) (h : P s) : P (written sz ea v s) := by
  rcases isMemory_cases ea with hm | ⟨n, rfl⟩ | ⟨n, rfl⟩ | ⟨w, rfl⟩
  · rw [written_memory _ _ _ _ hm]
    refine hP.store _ _ _ _ (fun x hx => hd.stored x ?_) (hP.eaUpdate hd.updates h)
    rwa [storedBytes, if_pos hm]
  · exact hP.setD s n _ (hd.data n (List.mem_singleton_self n)) h
  · exact hP.setA s n _ (hd.address n (List.mem_singleton_self n)) h
  · exact absurd rfl (hw w)

theorem writeEa_leaves {sz : Size} {off : Nat} {ea : Ea} {v : Long} {s : State} {k : Unit → State → Res α}
    (hd : Holds ds as bytes sz ea s) (h : P s) (hk : ∀ t, P t → (k () t).Leaves P) :
    ((writeEa sz off ea v s).bind k).Leaves P := by
  by_cases hw : ∃ w, ea = .imm w
  · obtain ⟨w, rfl⟩ := hw
    trivial
  · rcases writeEa_cases sz off ea v s with g | ⟨fs, g, -⟩ | ⟨e, t, g, -⟩ | g | ⟨g, -⟩ <;> rw [g]
    · exact hk _ (hP.written (fun w hi => hw ⟨w, hi⟩) hd h)
    · exact hk _ (hP.writeFaults _ _ (hP.eaUpdate hd.updates h))
    · trivial
    · trivial
    · trivial

theorem modifyEa_leaves (hflags : ∀ t f, P t → P (t.setFlags f)) {sz : Size} {off : Nat} {ea : Ea}
    {f : Long → Flags → Long × Flags} {s : State} {k : Unit → State → Res α} (hd : Holds ds as bytes sz ea s) (h : P s)
    (hk : ∀ t, P t → (k () t).Leaves P) : ((modifyEa sz off ea f s).bind k).Leaves P := by
  by_cases hw : ∃ w, ea = .imm w
  · obtain ⟨w, rfl⟩ := hw
    trivial
  · rcases modifyEa_cases sz off ea f s with ⟨-, g⟩ | ⟨fs, g, -⟩ | ⟨e, t, g, -⟩ | g | ⟨g, -⟩ <;> rw [g]
    · exact hk _ (hflags _ _ (hP.written (fun w hi => hw ⟨w, hi⟩) hd h))
    · exact hk _ (hflags _ _ (hP.writeFaults _ _ (hP.eaUpdate hd.updates h)))
    · trivial
    · trivial
    · trivial

theorem storeMem_leaves {a : Long} {sz : Size} {v : Long} {s : State} {k : Unit → State → Res α}
    (hb : ∀ x ∈ spanOf a sz.bytes, x ∈ bytes) (h : P s) (hk : ∀ t, P t → (k () t).Leaves P) :
    ((storeMem a sz v s).bind k).Leaves P := by
  rcases storeMem_cases a sz v s with g | ⟨fs, g⟩ | ⟨fs, g⟩ <;> rw [g]
  · exact hk _ (hP.store _ _ _ _ hb h)
  · trivial
  · exact hk _ (hP.writeFaults _ _ h)

theorem push_leaves {v : Long} {s : State} {k : Unit → State → Res α} (h7 : 7 ∈ as)
    (hb : ∀ x ∈ spanOf (s.sp - 4#32) 4, x ∈ bytes) (h : P s)
    (hk : ∀ t, P t → t.sp = s.sp - 4#32 → (k () t).Leaves P) : ((push v s).bind k).Leaves P := by
  have hsp := hP.setSp h7 (s.sp - 4#32) h
  rcases push_cases v s with g | ⟨fs, g⟩ | ⟨fs, g⟩ <;> rw [g]
  · exact hk _ (hP.store _ _ .long _ hb hsp) (pushed_sp v s)
  · trivial
  · exact hk _ (hP.writeFaults _ _ hsp) (State.setSp_sp _ _)

omit hP in
theorem synchronizing_leaves {n : Nat} {s : State} {k : State → Res Unit} (h : (k s.synced).Leaves P) :
    Completes P (synchronizing n s k) :=
  (privileged_leaves (fetchExt_leaves h)).completes

end

end Sys2Proof.Machine
end

section
/-! PROOFS. Frames of the instructions, form by form. -/

namespace Sys2Proof.Machine

-- One theorem after another: elaborating them side by side takes a thread each, and no less time.
set_option Elab.async false

/-! A data register or the flags. -/

section
variable {ds as : List (Fin 8)} {bytes : List Nat} {s t : State}

theorem modifyD_leaves {n : Fin 8} {m : Nat} {f : Long → Flags → Long × Flags} (hn : n ∈ ds) (h : Frame ds as bytes s t) :
    ((modifyD n f t).bind fun _ t => advance m t).Leaves (Frame ds as bytes s) :=
  advance_leaves within_frame ((h.setD hn _).setFlags _)

theorem shiftOp_leaves {n : Fin 8} {step : ShiftStep} {cnt : ShiftCount} (hn : n ∈ ds) (h : Frame ds as bytes s t) :
    (shiftOp step cnt n t).Leaves (Frame ds as bytes s) := by
  unfold shiftOp
  exact modifyD_leaves hn h

theorem sourceToD_leaves {sz : Size} {off m : Nat} {src : Ea} {n : Fin 8} {f : Long → Long → Flags → Long × Flags} (hn : n ∈ ds)
    (hu : ∀ r ∈ eaUpdates src, r ∈ as) (h : Frame ds as bytes s t) :
    ((sourceToD sz off src n f t).bind fun _ t => advance m t).Leaves (Frame ds as bytes s) := by
  have hread := within_frame.eaUpdate (sz := sz) hu h
  unfold sourceToD
  rcases readEa_cases sz off src t with g | ⟨e, u, g, -⟩ | g | ⟨g, -⟩ <;> rw [g]
  · exact modifyD_leaves hn hread
  all_goals trivial

theorem divEnd_leaves {o : Bool} {n : Fin 8} {r : Long} {f : Flags} {m : Nat} (hn : n ∈ ds) (h : Frame ds as bytes s t) :
    (divEnd o n r f m t).Leaves (Frame ds as bytes s) := by
  unfold divEnd
  split
  · exact advance_leaves within_frame (h.setFlags _)
  · exact advance_leaves within_frame ((h.setD hn _).setFlags _)

theorem divide_leaves {v : Nat} {r : Res Unit} (h : r.Leaves (Frame ds as bytes s)) :
    (if v = 0 then .raise .divideByZero t else r).Leaves (Frame ds as bytes s) := by
  split
  · trivial
  · exact h

end

/-- An instruction with a data register destination changes that register, the flags and the register its source updates. -/
theorem dataForm_completes {i : Instr} {dx : Fin 8} {src : Ea} (s : State) (hi : dataForm i = some (dx, src)) :
    Completes (Frame [dx] (eaUpdates src) [] s) (exec i s) := by
  have start := Frame.refl [dx] (eaUpdates src) [] s
  have dest : dx ∈ [dx] := List.mem_singleton_self dx
  have read {sz : Size} := within_frame.eaUpdate (sz := sz) (fun _ hr => hr) start
  cases i with
  | oriL | andiL | subiL | addiL | eoriL =>
    cases hi
    exact Res.Leaves.completes (fetchExt_leaves (modifyD_leaves dest start))
  | bitrev | byterev | ff1 | negx | neg | not | swap | extW | extL | extbL | sats | moveq | subx | addx =>
    cases hi
    unfold exec
    exact Res.Leaves.completes (modifyD_leaves dest start)
  | asl | asr | lsl | lsr =>
    cases hi
    exact Res.Leaves.completes (s0 := s) (shiftOp_leaves dest start)
  | moveFromCcr | scc =>
    cases hi
    exact Res.Leaves.completes (s0 := s) (advance_leaves within_frame (start.setD dest _))
  | moveFromSr =>
    cases hi
    exact Res.Leaves.completes (privileged_leaves (advance_leaves within_frame (start.setD dest _)))
  | muluL | mulsL =>
    cases hi
    exact Res.Leaves.completes (fetchExt_leaves (sourceToD_leaves dest (fun _ hr => hr) start))
  | mvs | mvz | orEaDn | subEaDn | andEaDn | muluW | mulsW | addEaDn =>
    cases hi
    exact Res.Leaves.completes (sourceToD_leaves dest (fun _ hr => hr) start)
  | divuW | divsW =>
    cases hi
    exact Res.Leaves.completes (readEa_leaves (divide_leaves (divEnd_leaves dest read)))
  | divuL | divsL | remuL | remsL =>
    cases hi
    exact Res.Leaves.completes (fetchExt_leaves (readEa_leaves (divide_leaves (divEnd_leaves dest read))))
  | _ => cases hi

/-- An instruction that writes flags only, loading CCR apart. -/
theorem flagForm_completes {i : Instr} {src : Ea} (s : State) (hi : flagForm i = some src) (hccr : ∀ e, i ≠ .moveToCcr e) :
    Completes (Frame [] (eaUpdates src) [] s) (exec i s) := by
  have start := Frame.refl [] (eaUpdates src) [] s
  have read {sz : Size} := within_frame.eaUpdate (sz := sz) (fun _ hr => hr) start
  cases i with
  | btstImm =>
    cases hi
    exact Res.Leaves.completes (fetchExt_leaves (readEa_leaves (advance_leaves within_frame (read.setFlags _))))
  | btstReg | tst | cmp | cmpaW | cmpaL =>
    cases hi
    exact Res.Leaves.completes (readEa_leaves (advance_leaves within_frame (read.setFlags _)))
  | cmpi =>
    cases hi
    exact Res.Leaves.completes (fetchExt_leaves (advance_leaves within_frame (start.setFlags _)))
  | wddata =>
    cases hi
    exact Res.Leaves.completes (readEa_leaves (advance_leaves within_frame read))
  | moveToCcr e => exact absurd rfl (hccr e)
  | _ => cases hi

/-- What MOVE to CCR leaves: all but the low byte of SR. -/
structure CcrOnly (s t : State) : Prop where
  upper : t.sr.extractLsb' 8 8 = s.sr.extractLsb' 8 8
  data : t.d = s.d
  memory : t.mem = s.mem
  address : ∀ n, t.getA n = s.getA n
  control : t.control = s.control

theorem CcrOnly.loadCcr (s : State) (v : Byte) : CcrOnly s (s.loadCcr v) where
  upper := loadCcr_upperByte s v
  data := rfl
  memory := rfl
  address n := by
    simp only [State.getA, State.sp, supervisor_of_upperByte (loadCcr_upperByte s v)]
    rfl
  control := rfl

theorem moveToCcr_completes {e : Ea} {z : Size} (s : State) (he : e.dregOrImm z = true) :
    Completes (CcrOnly s) (exec (.moveToCcr e) s) := by
  have h (v : Byte) : CcrOnly s ((eaUpdate .byte e s).loadCcr v) := by
    rw [eaUpdate_of_dregOrImm he]
    exact CcrOnly.loadCcr s v
  exact Res.Leaves.completes (readEa_leaves (k := fun v s => advance (1 + eaWords .byte e) (s.loadCcr (v.setWidth 8)))
    { h _ with })

/-- Settles O57: what the parts of an instruction leave, for each constructor of the two forms. -/
theorem dataRegisterFrame : Obligations.DataRegisterFrame := by
  intro i s t hwf hexec _ hquiet
  refine ⟨fun dx src hi => (dataForm_completes s hi).quiet hexec hquiet, fun src hi => ?_⟩
  by_cases hccr : ∃ e, i = .moveToCcr e
  · obtain ⟨e, rfl⟩ := hccr
    have h := (moveToCcr_completes s hwf).quiet hexec hquiet
    exact .inr ⟨e, rfl, h.upper, h.data, h.memory, h.address, h.control⟩
  · exact .inl ((flagForm_completes s hi fun e he => hccr ⟨e, he⟩).quiet hexec hquiet)

/-! A destination operand. -/

section
variable {ds as : List (Fin 8)} {bytes : List Nat} {s t : State}

theorem toEa_leaves {v : Long} {ea : Ea} {f : Long → Long → Flags → Long × Flags} (hd : Holds ds as bytes .long ea t)
    (h : Frame ds as bytes s t) : (toEa v ea f t).Leaves (Frame ds as bytes s) :=
  modifyEa_leaves within_frame (fun _ f h => h.setFlags f) hd h fun _ h => advance_leaves within_frame h

/-- A bit operand is one place, whatever size is read there. -/
theorem Holds.bitSize {ea : Ea} (hd : Holds ds as bytes .byte ea t) : Holds ds as bytes (bitSize ea) ea t :=
  { hd with
    stored := fun x hx => hd.stored x <| by
      cases ea with
      | dreg n => cases hx
      | _ => exact hx }

theorem bitModify_leaves {change : Long → Nat → Long} {off bn : Nat} {ea : Ea} (hd : Holds ds as bytes .byte ea t)
    (h : Frame ds as bytes s t) : (bitModify change off bn ea t).Leaves (Frame ds as bytes s) :=
  modifyEa_leaves within_frame (fun _ f h => h.setFlags f) hd.bitSize h fun _ h => advance_leaves within_frame h

theorem tas_leaves {ea : Ea} (hm : isMemory ea = true) (hd : Holds ds as bytes .byte ea t) (h : Frame ds as bytes s t) :
    Completes (Frame ds as bytes s) (exec (.tas ea) t) := by
  have hb : ∀ x ∈ spanOf (eaAddress .byte ea t) 1, x ∈ bytes := fun x hx => hd.stored x (by rwa [storedBytes, if_pos hm])
  refine Res.Leaves.completes (eaAddr_leaves (loadMem_leaves (storeMem_leaves within_frame hb
    (within_frame.eaUpdate hd.updates h) fun _ h => ?_)))
  exact advance_leaves within_frame (h.setFlags _)

theorem quickAreg_leaves {n : Fin 8} {v : Long} (hn : n ∈ as) (h : Frame ds as bytes s t) :
    (advance 1 (t.setA n v)).Leaves (Frame ds as bytes s) :=
  advance_leaves within_frame (h.setA hn v)

end

/-- An instruction with a destination operand, the state `eaUpdate sz src s` being the one its destination is evaluated in. -/
theorem storeForm_completes {i : Instr} {sz : Size} {dst src : Ea} (s : State) (hw : i.wf = true)
    (hi : storeForm i = some (sz, dst, src)) :
    Completes (Frame (destD dst) (destA dst ++ eaUpdates src ++ eaUpdates dst) (storedBytes sz dst (eaUpdate sz src s)) s)
      (exec i s) := by
  have start := Frame.refl (destD dst) (destA dst ++ eaUpdates src ++ eaUpdates dst) (storedBytes sz dst (eaUpdate sz src s)) s
  have dest : Holds (destD dst) (destA dst ++ eaUpdates src ++ eaUpdates dst) (storedBytes sz dst (eaUpdate sz src s)) sz dst
      (eaUpdate sz src s) :=
    ⟨fun _ h => h, fun _ h => List.mem_append_left _ (List.mem_append_left _ h), fun _ h => List.mem_append_right _ h,
      fun _ h => h⟩
  have read := within_frame.eaUpdate (sz := sz) (ea := src)
    (fun _ h => List.mem_append_left _ (List.mem_append_right _ h)) start
  cases i with
  | moveB | moveW | moveL =>
    cases hi
    refine Res.Leaves.completes (readEa_leaves (writeEa_leaves within_frame dest read fun _ h => ?_))
    exact advance_leaves within_frame (h.setFlags _)
  | clr | mov3q =>
    cases hi
    refine Res.Leaves.completes (writeEa_leaves within_frame dest start fun _ h => ?_)
    exact advance_leaves within_frame (h.setFlags _)
  | tas ea =>
    cases hi
    exact tas_leaves (isMemory_of_memoryAlterable hw) dest start
  | bchgImm | bclrImm | bsetImm =>
    cases hi
    exact Res.Leaves.completes (fetchExt_leaves (bitModify_leaves dest start))
  | bchgReg | bclrReg | bsetReg =>
    cases hi
    exact Res.Leaves.completes (s0 := s) (bitModify_leaves dest start)
  | addq | subq =>
    cases hi
    cases dst with
    | areg n => exact Res.Leaves.completes (s0 := s) (quickAreg_leaves (List.mem_singleton_self n) start)
    | imm => cases hw
    | _ => exact Res.Leaves.completes (s0 := s) (toEa_leaves dest start)
  | orDnEa | subDnEa | eor | andDnEa | addDnEa =>
    cases hi
    exact Res.Leaves.completes (s0 := s) (toEa_leaves dest start)
  | _ => cases hi

/-- Settles O58: what the parts of an instruction leave, for each constructor of the form. -/
theorem destinationFrame : Obligations.DestinationFrame := by
  intro i sz dst src s t hwf hi hexec _ hquiet
  exact (storeForm_completes s hwf hi).quiet hexec hquiet

/-! An address register or the pc. -/

section
variable {ds as : List (Fin 8)} {bytes : List Nat} {s t : State}

/-- The property of a frame that keeps the flags. -/
def KeepsFlags (ds as : List (Fin 8)) (bytes : List Nat) (s t : State) : Prop := Frame ds as bytes s t ∧ t.sr = s.sr

theorem within_keepsFlags : Within ds as bytes (KeepsFlags ds as bytes s) := within_frame_sr

theorem KeepsFlags.refl (ds as : List (Fin 8)) (bytes : List Nat) (s : State) : KeepsFlags ds as bytes s s :=
  ⟨Frame.refl ds as bytes s, rfl⟩

theorem withUsp_leaves {P : State → Prop} {k : State → Res Unit} (h : (k s).Leaves P) : (withUsp s k).Leaves P := by
  unfold withUsp
  split
  · refine privileged_leaves ?_
    split
    · trivial
    · exact h
  · trivial

end

/-- An instruction with an address register destination changes that register and the register its source updates. -/
theorem addressForm_completes {i : Instr} {ax : Fin 8} {src : Ea} (s : State) (hi : addressForm i = some (ax, src)) :
    Completes (KeepsFlags [] (ax :: eaUpdates src) [] s) (exec i s) := by
  have start := KeepsFlags.refl [] (ax :: eaUpdates src) [] s
  have read {sz : Size} := within_keepsFlags.eaUpdate (sz := sz) (ea := src) (fun _ hr => List.mem_cons_of_mem ax hr) start
  have dest {t : State} (v : Long) (h : KeepsFlags [] (ax :: eaUpdates src) [] s t) :=
    within_keepsFlags.setA t ax v List.mem_cons_self h
  cases i with
  | moveaW | moveaL | suba | adda =>
    cases hi
    exact Res.Leaves.completes (readEa_leaves (advance_leaves within_keepsFlags (dest _ read)))
  | lea =>
    cases hi
    exact Res.Leaves.completes (eaAddr_leaves (advance_leaves within_keepsFlags (dest _ read)))
  | moveFromUsp =>
    cases hi
    exact Res.Leaves.completes (withUsp_leaves (advance_leaves within_keepsFlags (dest _ start)))
  | _ => cases hi

/-- An instruction that moves the pc changes nothing else. -/
theorem flowForm_completes {i : Instr} (s : State) (hw : i.wf = true) (hi : flowForm i = true) :
    Completes (KeepsFlags [] [] [] s) (exec i s) := by
  have start := KeepsFlags.refl [] [] [] s
  have forgotten := within_keepsFlags.synced s start
  have go {t : State} {n : Nat} (h : KeepsFlags [] [] [] s t) := advance_leaves within_keepsFlags (n := n) h
  have jump {t : State} {a : Long} (h : KeepsFlags [] [] [] s t) := jumpTo_leaves within_keepsFlags (a := a) h
  cases i with
  | bra => exact Res.Leaves.completes (fetchExt_leaves (jump start))
  | bcc c d =>
    refine Res.Leaves.completes (fetchExt_leaves ?_)
    split
    · exact jump start
    · exact go start
  | jmp ea =>
    refine Res.Leaves.completes (eaAddr_leaves (jump ?_))
    rwa [eaUpdate_of_control _ _ _ hw]
  | nop => exact Res.Leaves.completes (s0 := s) (go forgotten)
  | tpf | pulse => exact Res.Leaves.completes (s0 := s) (go start)
  | tpfW | tpfL => exact Res.Leaves.completes (fetchExt_leaves (go start))
  | cpushl | intouch => exact synchronizing_leaves (go forgotten)
  | _ => cases hi

/-- Settles O59: what the parts of an instruction leave, for each constructor of the two forms. -/
theorem addressAndFlowFrame : Obligations.AddressAndFlowFrame := by
  intro i s t hwf hexec _ hquiet
  exact ⟨fun ax src hi => (addressForm_completes s hi).quiet hexec hquiet,
    fun hi => (flowForm_completes s hwf hi).quiet hexec hquiet⟩

/-! A push. -/

/-- An instruction that pushes changes the four bytes below the stack pointer, the stack pointer and LINK's register. -/
theorem pushForm_completes {i : Instr} {regs : List (Fin 8)} (s : State) (hw : i.wf = true) (hi : pushForm i = some regs) :
    Completes (KeepsFlags [] regs (spanOf (s.sp - 4#32) 4) s) (exec i s) := by
  have start := KeepsFlags.refl [] regs (spanOf (s.sp - 4#32) 4) s
  have below : ∀ x ∈ spanOf (s.sp - 4#32) 4, x ∈ spanOf (s.sp - 4#32) 4 := fun _ hx => hx
  cases i with
  | pea ea =>
    cases hi
    refine Res.Leaves.completes (eaAddr_leaves ?_)
    rw [eaUpdate_of_control _ _ _ hw]
    exact push_leaves within_keepsFlags (List.mem_singleton_self 7) below start fun _ h _ => advance_leaves within_keepsFlags h
  | jsr ea =>
    cases hi
    refine Res.Leaves.completes (eaAddr_leaves ?_)
    rw [eaUpdate_of_control _ _ _ hw]
    exact push_leaves within_keepsFlags (List.mem_singleton_self 7) below start fun _ h _ => jumpTo_leaves within_keepsFlags h
  | bsr d =>
    cases hi
    refine Res.Leaves.completes (fetchExt_leaves ?_)
    exact push_leaves within_keepsFlags (List.mem_singleton_self 7) below start fun _ h _ => jumpTo_leaves within_keepsFlags h
  | link ay d =>
    cases hi
    refine Res.Leaves.completes (fetchExt_leaves ?_)
    split
    · trivial
    · refine push_leaves within_keepsFlags (by simp) below start fun t h _ => ?_
      refine advance_leaves within_keepsFlags (within_keepsFlags.setSp (by simp) _ ?_)
      exact within_keepsFlags.setA t ay _ List.mem_cons_self h
  | _ => cases hi

/-- Settles O60: what the parts of an instruction leave, for each constructor of the form. -/
theorem pushFrame : Obligations.PushFrame := by
  intro i regs s t hwf hi hexec _ hquiet
  exact (pushForm_completes s hwf hi).quiet hexec hquiet

end Sys2Proof.Machine
end

section
/-! PROOFS. MOVEM (spec 41_data_movement.md R156, R157): the transfers of a list of registers, and a list cut in two, so that what
was transferred before a refused access is a list of its own. -/

namespace Sys2Proof.Machine

-- One theorem after another: elaborating them side by side takes a thread each, and no less time.
set_option Elab.async false

/-! R[n]. -/

theorem State.getR_data (s : State) {n : Fin 16} (h : n.val < 8) : s.getR n = s.getD (Fin.ofNat 8 n.val) := if_pos h

theorem State.getR_address (s : State) {n : Fin 16} (h : ¬ n.val < 8) : s.getR n = s.getA (Fin.ofNat 8 n.val) := if_neg h

theorem State.setR_data (s : State) {n : Fin 16} (h : n.val < 8) (v : Long) : s.setR n v = s.setD (Fin.ofNat 8 n.val) v :=
  if_pos h

theorem State.setR_address (s : State) {n : Fin 16} (h : ¬ n.val < 8) (v : Long) :
    s.setR n v = s.setA (Fin.ofNat 8 n.val) v :=
  if_neg h

theorem ofNat8_inj {m n : Fin 16} (h : m.val < 8 ↔ n.val < 8) : Fin.ofNat 8 m.val = Fin.ofNat 8 n.val ↔ m = n := by
  simp only [Fin.ext_iff, Fin.ofNat]
  omega

theorem State.getR_setR (s : State) (n m : Fin 16) (v : Long) : (s.setR n v).getR m = if n = m then v else s.getR m := by
  by_cases hn : n.val < 8 <;> by_cases hm : m.val < 8
  · rw [State.setR_data s hn, State.getR_data _ hm, State.getD_setD, State.getR_data s hm]
    simp only [ofNat8_inj (iff_of_true hn hm)]
  · have hne : n ≠ m := fun h => hm (h ▸ hn)
    rw [State.setR_data s hn, State.getR_address _ hm, State.setD_getA, if_neg hne, State.getR_address s hm]
  · have hne : n ≠ m := fun h => hn (h ▸ hm)
    rw [State.setR_address s hn, State.getR_data _ hm, State.setA_getD, if_neg hne, State.getR_data s hm]
  · rw [State.setR_address s hn, State.getR_address _ hm, State.getA_setA, State.getR_address s hm]
    simp only [ofNat8_inj (iff_of_false hn hm)]

/-- Nothing but data registers and address registers differs. -/
structure RegistersOnly (s t : State) : Prop where
  mem : t.mem = s.mem
  sr : t.sr = s.sr
  control : t.control = s.control
  otherSp : t.otherSp = s.otherSp
  pc : t.pc = s.pc
  cfg : t.cfg = s.cfg

theorem RegistersOnly.refl (s : State) : RegistersOnly s s := ⟨rfl, rfl, rfl, rfl, rfl, rfl⟩

theorem RegistersOnly.trans {s t u : State} (h : RegistersOnly s t) (g : RegistersOnly t u) : RegistersOnly s u :=
  ⟨g.mem.trans h.mem, g.sr.trans h.sr, g.control.trans h.control, g.otherSp.trans h.otherSp, g.pc.trans h.pc, g.cfg.trans h.cfg⟩

theorem RegistersOnly.setR (s : State) (n : Fin 16) (v : Long) : RegistersOnly s (s.setR n v) := by
  by_cases hn : n.val < 8
  · rw [State.setR_data s hn]
    exact ⟨rfl, rfl, rfl, rfl, rfl, rfl⟩
  · rw [State.setR_address s hn]
    exact ⟨State.setA_mem _ _ _, State.setA_sr _ _ _, State.setA_control _ _ _, State.setA_otherSp _ _ _, State.setA_pc _ _ _,
      State.setA_cfg _ _ _⟩

theorem RegistersOnly.load {s t : State} (h : RegistersOnly s t) (a : Long) (sz : Size) : t.load a sz = s.load a sz := by
  rw [State.load, h.mem, State.load]

theorem RegistersOnly.refuses {s t : State} (h : RegistersOnly s t) (kind : AccessKind) (a : Long) (n : Nat) :
    t.refuses kind a n = s.refuses kind a n :=
  State.refuses_eq s t h.cfg (State.supervisor_eq s t h.sr) kind a n

/-! The mask's registers. -/

theorem mem_maskRegs (mask : Word) (r : Fin 16) : r ∈ maskRegs mask ↔ mask.getLsbD r.val = true := by
  simp [maskRegs]

theorem maskRegs_length (mask : Word) : (maskRegs mask).length ≤ 16 :=
  (List.length_filter_le _ _).trans (List.length_finRange (n := 16)).le

theorem maskRegs_nodup (mask : Word) : (maskRegs mask).Nodup := (List.nodup_finRange 16).filter _

/-! The longwords one after another. -/

/-- The address of the `k`-th longword from `a` on. -/
def longAt (a : Long) (k : Nat) : Long := a + BitVec.ofNat 32 (4 * k)

@[simp] theorem longAt_zero (a : Long) : longAt a 0 = a := BitVec.add_zero a

theorem longAt_succ (a : Long) (k : Nat) : longAt a (k + 1) = longAt (a + 4#32) k := by
  unfold longAt
  bv_omega

/-- A longword of a block lies in it. -/
theorem mem_block {a x : Long} {k n : Nat} (hk : k < n) (hn : n ≤ 16) (h : x.toNat ∈ spanOf (longAt a k) 4) :
    x.toNat ∈ spanOf a (4 * n) := by
  rw [mem_spanOf_iff _ _ (by omega)] at h ⊢
  unfold longAt at h
  bv_omega

/-- The block after the first longword does not meet that one. -/
theorem notMem_block {a x : Long} {n : Nat} (hn : n ≤ 16) (h : x.toNat ∈ spanOf a 4) : x.toNat ∉ spanOf (a + 4#32) (4 * n) := by
  rw [mem_spanOf_iff _ _ (by omega)] at h ⊢
  bv_omega

/-! The transfers that no access refuses. -/

/-- The state after the registers were stored. -/
def storedRegs : List (Fin 16) → Long → State → State
  | [], _, s => s
  | r :: rs, a, s => storedRegs rs (a + 4#32) (s.store a .long (s.getR r))

/-- The state after the registers were loaded. -/
def loadedRegs : List (Fin 16) → Long → State → State
  | [], _, s => s
  | r :: rs, a, s => loadedRegs rs (a + 4#32) (s.setR r (s.load a .long))

/-- A list of transfers cut where the first part is allowed. -/
theorem storeRegs_append {xs : List (Fin 16)} (ys : List (Fin 16)) {a : Long} {s : State}
    (h : ∀ k, k < xs.length → s.refuses .write (longAt a k) 4 = false) :
    storeRegs (xs ++ ys) a s = storeRegs ys (longAt a xs.length) (storedRegs xs a s) := by
  induction xs generalizing a s with
  | nil =>
    rw [List.length_nil, longAt_zero]
    rfl
  | cons r rs ih =>
    have hfirst := h 0 (Nat.zero_lt_succ _)
    rw [longAt_zero] at hfirst
    rw [List.cons_append, storeRegs, storeMem_ok _ _ _ _ hfirst, Res.bind_ok, ih, List.length_cons, longAt_succ]
    · rfl
    · intro k hk
      rw [State.store_refuses, ← longAt_succ]
      exact h (k + 1) (Nat.succ_lt_succ hk)

theorem loadRegs_append {xs : List (Fin 16)} (ys : List (Fin 16)) {a : Long} {s : State}
    (h : ∀ k, k < xs.length → s.refuses .read (longAt a k) 4 = false) :
    loadRegs (xs ++ ys) a s = loadRegs ys (longAt a xs.length) (loadedRegs xs a s) := by
  induction xs generalizing a s with
  | nil =>
    rw [List.length_nil, longAt_zero]
    rfl
  | cons r rs ih =>
    have hfirst := h 0 (Nat.zero_lt_succ _)
    rw [longAt_zero] at hfirst
    rw [List.cons_append, loadRegs, loadMem_ok _ _ _ hfirst, Res.bind_ok, ih, List.length_cons, longAt_succ]
    · rfl
    · intro k hk
      rw [(RegistersOnly.setR _ _ _).refuses, ← longAt_succ]
      exact h (k + 1) (Nat.succ_lt_succ hk)

/-- Stores keep what a frame of the block keeps. -/
theorem storedRegs_within {ds as : List (Fin 8)} {bytes : List Nat} {P : State → Prop} (hP : Within ds as bytes P)
    {xs : List (Fin 16)} {a : Long} {s : State} (hb : ∀ k, k < xs.length → ∀ x ∈ spanOf (longAt a k) 4, x ∈ bytes) (h : P s) :
    P (storedRegs xs a s) := by
  induction xs generalizing a s with
  | nil => exact h
  | cons r rs ih =>
    refine ih (fun k hk => ?_) (hP.store _ _ _ _ ?_ h)
    · rw [← longAt_succ]
      exact hb (k + 1) (Nat.succ_lt_succ hk)
    · have hfirst := hb 0 (Nat.zero_lt_succ _)
      rwa [longAt_zero] at hfirst

theorem storedRegs_keeps {xs : List (Fin 16)} (hx : xs.length ≤ 16) (a : Long) (s : State) :
    KeepsFlags [] [] (spanOf a (4 * xs.length)) s (storedRegs xs a s) := by
  refine storedRegs_within within_keepsFlags (fun k hk x hmem => ?_) (KeepsFlags.refl _ _ _ s)
  have hx32 : (BitVec.ofNat 32 x).toNat = x := Nat.mod_eq_of_lt (spanOf_lt _ _ _ hmem)
  rw [← hx32] at hmem ⊢
  exact mem_block hk hx hmem

@[simp] theorem storedRegs_pc (xs : List (Fin 16)) (a : Long) (s : State) : (storedRegs xs a s).pc = s.pc := by
  induction xs generalizing a s with
  | nil => rfl
  | cons r rs ih => exact ih _ _

/-- Each register lies where it was stored. -/
theorem storedRegs_load {xs : List (Fin 16)} (hx : xs.length ≤ 16) {a : Long} {s : State} {k : Nat} {r : Fin 16}
    (h : xs[k]? = some r) : (storedRegs xs a s).load (longAt a k) .long = s.getR r := by
  induction xs generalizing a s k with
  | nil => cases h
  | cons q rs ih =>
    have hrs : rs.length ≤ 16 := Nat.le_of_succ_le hx
    cases k with
    | zero =>
      cases h
      have later := (storedRegs_keeps hrs (a + 4#32) (s.store a .long (s.getR r))).1
      rw [longAt_zero]
      exact (loadOf_congr (sz := .long) fun x hmem => later.memory x (notMem_block hrs hmem)).trans
        (loadOf_storeOf s.mem a .long (s.getR r))
    | succ k =>
      rw [longAt_succ]
      exact ih hrs h

theorem loadedRegs_registersOnly (xs : List (Fin 16)) (a : Long) (s : State) : RegistersOnly s (loadedRegs xs a s) := by
  induction xs generalizing a s with
  | nil => exact RegistersOnly.refl s
  | cons r rs ih => exact (RegistersOnly.setR s r _).trans (ih _ _)

theorem loadedRegs_outside {xs : List (Fin 16)} {a : Long} {s : State} {q : Fin 16} (h : q ∉ xs) :
    (loadedRegs xs a s).getR q = s.getR q := by
  induction xs generalizing a s with
  | nil => rfl
  | cons r rs ih =>
    obtain ⟨hne, hrs⟩ := not_or.mp fun hm => h (List.mem_cons.mpr hm)
    rw [loadedRegs, ih hrs, State.getR_setR, if_neg (Ne.symm hne)]

/-- Each register holds the longword it was loaded from. -/
theorem loadedRegs_getR {xs : List (Fin 16)} (hx : xs.Nodup) {a : Long} {s : State} {k : Nat} {r : Fin 16}
    (h : xs[k]? = some r) : (loadedRegs xs a s).getR r = s.load (longAt a k) .long := by
  induction xs generalizing a s k with
  | nil => cases h
  | cons q rs ih =>
    obtain ⟨hq, hrs⟩ := List.nodup_cons.mp hx
    cases k with
    | zero =>
      cases h
      rw [loadedRegs, loadedRegs_outside hq, State.getR_setR, if_pos rfl, longAt_zero]
    | succ k => rw [loadedRegs, ih hrs h, longAt_succ, (RegistersOnly.setR s q _).load]

/-! The instruction. -/

theorem control_of_block {ea : Ea} (h : ea.block = true) : ea.control = true := by
  cases ea <;> first | rfl | cases h

section
variable {mask : Word} {ea : Ea} {s : State} (hb : ea.block = true) (hx : extReady 1 1 s = true)
  (he : eaReady .long 2 ea s = true)
include hb hx he

theorem exec_movemStore : exec (.movemStore mask ea) s =
    finish s ((storeRegs (maskRegs mask) (eaAddress .long ea s) s).bind fun _ t => advance (2 + eaWords .long ea) t) := by
  change finish s ((fetchExt 1 1 s).bind _) = _
  rw [fetchExt_ok 1 1 s hx, Res.bind_ok, eaAddr_ok _ _ _ _ he, Res.bind_ok, eaUpdate_of_control _ _ _ (control_of_block hb)]

theorem exec_movemLoad : exec (.movemLoad mask ea) s =
    finish s ((loadRegs (maskRegs mask) (eaAddress .long ea s) s).bind fun _ t => advance (2 + eaWords .long ea) t) := by
  change finish s ((fetchExt 1 1 s).bind _) = _
  rw [fetchExt_ok 1 1 s hx, Res.bind_ok, eaAddr_ok _ _ _ _ he, Res.bind_ok, eaUpdate_of_control _ _ _ (control_of_block hb)]

end

/-- Settles O17: all transfers, one after another. -/
theorem movemTransfers : Obligations.MovemTransfers := by
  intro mask ea s hb hx he
  have hlen := maskRegs_length mask
  refine ⟨fun h => ?_, fun h => ?_⟩
  · have moved := storeRegs_append [] h
    rw [List.append_nil] at moved
    obtain ⟨frame, hsr⟩ := storedRegs_keeps hlen (eaAddress .long ea s) s
    refine ⟨(storedRegs (maskRegs mask) (eaAddress .long ea s) s).advanced (2 + eaWords .long ea), ?_, ?_, { frame with }, ?_, ?_⟩
    · rw [exec_movemStore hb hx he, moved]
      rfl
    · intro k r hk
      exact storedRegs_load hlen hk
    · exact congrArg Flags.ofWord hsr
    · rw [State.advanced, storedRegs_pc]
  · have moved := loadRegs_append [] h
    rw [List.append_nil] at moved
    have only := loadedRegs_registersOnly (maskRegs mask) (eaAddress .long ea s) s
    refine ⟨(loadedRegs (maskRegs mask) (eaAddress .long ea s) s).advanced (2 + eaWords .long ea), ?_, ?_, ?_, only.mem, only.sr,
      only.control, only.otherSp, ?_⟩
    · rw [exec_movemLoad hb hx he, moved]
      rfl
    · intro k r hk
      exact loadedRegs_getR (maskRegs_nodup mask) hk
    · intro r hr
      refine loadedRegs_outside fun hmem => ?_
      rw [(mem_maskRegs mask r).mp hmem] at hr
      cases hr
    · rw [State.advanced, only.pc]

end Sys2Proof.Machine
end

section
/-! PROOFS. Access errors of operands (spec 60_exceptions.md R376, R381, R383): an instruction up to its refused access, and what the
rest of it does once the fault of a dropped write waits. -/

namespace Sys2Proof.Machine

-- One theorem after another: elaborating them side by side takes a thread each, and no less time.
set_option Elab.async false

/-! Refused accesses. -/

theorem readEa_of_memory {sz : Size} {off : Nat} {ea : Ea} {s : State} (hm : isMemory ea = true) :
    readEa sz off ea s = (eaAddr sz off ea s).bind fun a s => loadMem a sz s := by
  cases ea <;> first | rfl | cases hm

theorem writeEa_of_memory {sz : Size} {off : Nat} {ea : Ea} {v : Long} {s : State} (hm : isMemory ea = true) :
    writeEa sz off ea v s = (eaAddr sz off ea s).bind fun a s => storeMem a sz v s := by
  cases ea <;> first | rfl | cases hm

theorem modifyEa_of_memory {sz : Size} {off : Nat} {ea : Ea} {f : Long → Flags → Long × Flags} {s : State}
    (hm : isMemory ea = true) : modifyEa sz off ea f s = (eaAddr sz off ea s).bind fun a s =>
      (loadMem a sz s).bind fun v s => (storeMem a sz (f v s.flags).1 s).bind fun _ t => .ok () (t.setFlags (f v s.flags).2) := by
  cases ea <;> first | rfl | cases hm

theorem isMemory_of_eaReady {sz : Size} {off : Nat} {ea : Ea} {s : State} (h : eaReady sz off ea s = true) :
    isMemory ea = true := by
  simp only [eaReady, Bool.and_eq_true] at h
  exact h.1.1

theorem eaAllows_refused {kind : AccessKind} {sz : Size} {ea : Ea} {s : State} (h : eaAllows kind sz ea s = false) :
    s.refuses kind (eaAddress sz ea s) sz.bytes = true := by
  simpa [eaAllows] using h

theorem eaAllows_allowed {kind : AccessKind} {sz : Size} {ea : Ea} {s : State} (h : eaAllows kind sz ea s = true) :
    s.refuses kind (eaAddress sz ea s) sz.bytes = false := by
  simpa [eaAllows] using h

theorem setSp_refusing (s : State) (v : Long) (kind : AccessKind) (a : Long) (n : Nat) :
    (s.setSp v).refusing kind a n = s.refusing kind a n :=
  State.refusing_eq _ _ (by simp) (by simp) _ _ _

theorem eaUpdate_refusing (sz : Size) (ea : Ea) (s : State) (kind : AccessKind) (a : Long) (n : Nat) :
    (eaUpdate sz ea s).refusing kind a n = s.refusing kind a n := by
  cases ea with
  | postinc | predec => exact State.refusing_eq _ _ (by simp [eaUpdate]) (by simp [eaUpdate]) _ _ _
  | _ => rfl

/-- What comes after a write: it raises nothing, stores nothing and leaves the waiting faults. -/
def Settles (k : State → Res Unit) : Prop := ∀ t, ∃ u, k t = .ok () u ∧ u.mem = t.mem ∧ u.writeFaults = t.writeFaults

/-- A refused write and the rest of its instruction, from a state with the memory and the waiting faults of `s`. -/
def WriteRefused (r : Region) (s u : State) (o : Host.Outcome State Fault Refusal) : Prop :=
  (s.cfg.writeFaultMode = .precise → o = .next (enter 2#8 s.pc (if r.writeProtect then 9#4 else 8#4) none u)) ∧
  (s.cfg.writeFaultMode = .imprecise → ∃ t, o = .next t ∧ t.mem = s.mem ∧
    t.writeFaults = s.writeFaults ++ [if r.writeProtect then 9#4 else 8#4])

theorem storeMem_refused {a v : Long} {sz : Size} {s u : State} {r : Region} {k : State → Res Unit} (hk : Settles k)
    (hr : u.refusing .write a sz.bytes = some r) (hc : u.cfg = s.cfg) (hm : u.mem = s.mem) (hw : u.writeFaults = s.writeFaults) :
    WriteRefused r s u (finish s ((storeMem a sz v u).bind fun _ t => k t)) := by
  refine ⟨fun hp => ?_, fun hi => ?_⟩
  · rw [storeMem_precise _ _ _ _ _ hr (hc ▸ hp)]
    rfl
  · obtain ⟨t, ht, hmem, hfaults⟩ := hk { u with writeFaults := u.writeFaults ++ [writeStatus r] }
    rw [storeMem_imprecise _ _ _ _ _ hr (hc ▸ hi), Res.bind_ok, ht]
    refine ⟨t, rfl, hmem.trans hm, ?_⟩
    rw [hfaults, hw]
    rfl

theorem settles_advance (n : Nat) : Settles (advance n) := fun t => ⟨_, advance_eq n t, rfl, rfl⟩

theorem settles_jumpTo (a : Long) : Settles (jumpTo a) := fun _ => ⟨_, rfl, rfl, rfl⟩

/-! Pushes. -/

theorem settles_setSp {k : State → Res Unit} (hk : Settles k) (f : State → Long) : Settles fun t => k (t.setSp (f t)) := by
  intro t
  obtain ⟨u, hu, hmem, hfaults⟩ := hk (t.setSp (f t))
  exact ⟨u, hu, hmem.trans (by simp), hfaults.trans (by simp)⟩

theorem settles_setA {k : State → Res Unit} (hk : Settles k) (n : Fin 8) (f : State → Long) :
    Settles fun t => k (t.setA n (f t)) := by
  intro t
  obtain ⟨u, hu, hmem, hfaults⟩ := hk (t.setA n (f t))
  exact ⟨u, hu, hmem.trans (by simp), hfaults.trans (by simp)⟩

/-- An instruction whose push is next. -/
theorem exec_pushes {i : Instr} {s : State} (h : pushes i s = true) :
    ∃ v k, exec i s = finish s ((push v s).bind fun _ t => k t) ∧ Settles k := by
  cases i with
  | pea ea =>
    obtain ⟨hc, he⟩ := (Bool.and_eq_true _ _).mp h
    refine ⟨eaAddress .long ea s, _, ?_, settles_advance (1 + eaWords .long ea)⟩
    change finish s ((eaAddr .long 1 ea s).bind _) = _
    rw [eaAddr_control hc he, Res.bind_ok]
  | jsr ea =>
    obtain ⟨hc, he⟩ := (Bool.and_eq_true _ _).mp h
    refine ⟨s.pc + 2#32 + 2#32 * BitVec.ofNat 32 (eaWords .long ea), _, ?_, settles_jumpTo (eaAddress .long ea s)⟩
    change finish s ((eaAddr .long 1 ea s).bind _) = _
    rw [eaAddr_control hc he, Res.bind_ok]
  | bsr d =>
    refine ⟨s.pc + 2#32 + 2#32 * BitVec.ofNat 32 (dispWords d), fun t => jumpTo (branchTarget d t) t, ?_,
      fun t => settles_jumpTo _ t⟩
    change finish s ((fetchExt 1 (dispWords d) s).bind _) = _
    rw [fetchExt_ok _ _ _ h, Res.bind_ok]
  | link ay d =>
    obtain ⟨hne, hx⟩ := (Bool.and_eq_true _ _).mp h
    have hay : ay.val ≠ 7 := fun he => of_decide_eq_true hne (Fin.ext he)
    refine ⟨s.getA ay, _, ?_, settles_setA (settles_setSp (settles_advance 2) fun t => t.sp + sextWord d) ay State.sp⟩
    change finish s ((fetchExt 1 1 s).bind _) = _
    rw [fetchExt_ok _ _ _ hx, Res.bind_ok, if_neg hay]
  | stldsr imm =>
    simp only [pushes, Bool.and_eq_true, Bool.not_eq_true'] at h
    obtain ⟨⟨hs, hx⟩, hb⟩ := h
    refine ⟨s.sr.setWidth 32, fun t => advance 3 (t.loadSr imm), ?_, fun t => ⟨_, rfl, rfl, rfl⟩⟩
    change finish s (privileged s _) = _
    rw [privileged_supervisor hs, fetchExt_ok _ _ _ hx, Res.bind_ok, if_neg (ne_true_of_eq_false hb)]
  | _ => cases h

theorem exec_pushes_refused {i : Instr} {s : State} {r : Region} (h : pushes i s = true)
    (hr : s.refusing .write (s.sp - 4#32) 4 = some r) : WriteRefused r s (s.setSp (s.sp - 4#32)) (exec i s) := by
  obtain ⟨v, k, he, hk⟩ := exec_pushes h
  rw [he]
  refine storeMem_refused (sz := .long) hk ?_ (by simp) (by simp) (by simp)
  rwa [State.setSp_sp, setSp_refusing]

/-! MOVE.L. -/

theorem exec_moveL_read {ea : Ea} {n : Fin 8} {s : State} (hm : isMemory ea = true) (he : eaReady .long 1 ea s = true)
    (hr : eaAllows .read .long ea s = false) :
    exec (.moveL ea (.dreg n)) s = .next (enter 2#8 s.pc 0xC#4 none (eaUpdate .long ea s)) := by
  change finish s ((readEa .long 1 ea s).bind _) = _
  rw [readEa_of_memory hm, eaAddr_ok _ _ _ _ he, Res.bind_ok, loadMem_refused]
  · rfl
  · rw [eaUpdate_refuses]
    exact eaAllows_refused hr

/-- The write of MOVE.L, with what follows it. -/
theorem exec_moveL_write {ea : Ea} {n : Fin 8} {s : State} (hm : isMemory ea = true) (he : eaReady .long 1 ea s = true) :
    exec (.moveL (.dreg n) ea) s =
      finish s ((storeMem (eaAddress .long ea s) .long (s.getD n) (eaUpdate .long ea s)).bind fun _ t =>
        advance (1 + eaWords .long ea) (t.setFlags (Flags.moveStyle .long (s.getD n) t.flags))) := by
  change finish s ((writeEa .long 1 ea (s.getD n) s).bind fun _ t =>
    advance (1 + 0 + eaWords .long ea) (t.setFlags (Flags.moveStyle .long (s.getD n) t.flags))) = _
  rw [writeEa_of_memory hm, eaAddr_ok _ _ _ _ he, Res.bind_ok]

/-! MOVEM. -/

theorem drop_maskRegs {mask : Word} {k : Nat} (hk : k < (maskRegs mask).length) :
    ∃ q rest, maskRegs mask = (maskRegs mask).take k ++ q :: rest := by
  refine ⟨(maskRegs mask)[k], (maskRegs mask).drop (k + 1), ?_⟩
  rw [← List.drop_eq_getElem_cons hk, List.take_append_drop]

section
variable {mask : Word} {ea : Ea} {s : State} {k : Nat} (hb : ea.block = true) (hx : extReady 1 1 s = true)
  (he : eaReady .long 2 ea s = true) (hk : k < (maskRegs mask).length)
include hb hx he hk

/-- The state after the transfers before a refused write. -/
theorem exec_movemStore_refused {r : Region}
    (hok : ∀ j, j < k → s.refuses .write (longAt (eaAddress .long ea s) j) 4 = false)
    (hr : s.refusing .write (longAt (eaAddress .long ea s) k) 4 = some r) (hp : s.cfg.writeFaultMode = .precise) :
    exec (.movemStore mask ea) s = .next (enter 2#8 s.pc (if r.writeProtect then 9#4 else 8#4) none
      (storedRegs ((maskRegs mask).take k) (eaAddress .long ea s) s)) := by
  have hlen : ((maskRegs mask).take k).length = k := List.length_take_of_le hk.le
  obtain ⟨frame, hsr⟩ := storedRegs_keeps (hlen.le.trans (hk.le.trans (maskRegs_length mask))) (eaAddress .long ea s) s
  obtain ⟨q, rest, hcut⟩ := drop_maskRegs hk
  rw [exec_movemStore hb hx he, hcut, storeRegs_append _ (by rwa [hlen]), hlen, storeRegs, storeMem_precise (r := r)]
  · rw [← hcut]
    rfl
  · exact (State.refusing_eq _ _ frame.config (State.supervisor_eq _ _ hsr) _ _ _).trans hr
  · rw [frame.config, hp]

theorem exec_movemLoad_refused (hok : ∀ j, j < k → s.refuses .read (longAt (eaAddress .long ea s) j) 4 = false)
    (hr : s.refuses .read (longAt (eaAddress .long ea s) k) 4 = true) :
    exec (.movemLoad mask ea) s =
      .next (enter 2#8 s.pc 0xC#4 none (loadedRegs ((maskRegs mask).take k) (eaAddress .long ea s) s)) := by
  have hlen : ((maskRegs mask).take k).length = k := List.length_take_of_le hk.le
  obtain ⟨q, rest, hcut⟩ := drop_maskRegs hk
  rw [exec_movemLoad hb hx he, hcut, loadRegs_append _ (by rwa [hlen]), hlen, loadRegs, loadMem_refused]
  · rw [← hcut]
    rfl
  · exact ((loadedRegs_registersOnly _ _ _).refuses _ _ _).trans hr

end

/-! Read-modify-writes. -/

theorem Res.bind_assoc {α β γ : Type} (r : Res α) (k : α → State → Res β) (l : β → State → Res γ) :
    (r.bind k).bind l = r.bind fun x s => (k x s).bind l := by
  cases r <;> rfl

/-- The instruction reads the operand, writes a value made of it back, and settles. -/
def ReadsThenWrites (sz : Size) (off : Nat) (ea : Ea) (s : State) (o : Host.Outcome State Fault Refusal) : Prop :=
  ∃ (g : Long → State → Long) (k : Long → State → State → Res Unit),
    o = finish s ((eaAddr sz off ea s).bind fun a s => (loadMem a sz s).bind fun v s =>
      (storeMem a sz (g v s) s).bind fun _ t => k v s t) ∧
    ∀ v u, Settles (k v u)

theorem modifyEa_readsThenWrites {sz : Size} {off n : Nat} {ea : Ea} {f : Long → Flags → Long × Flags} {s : State}
    (hm : isMemory ea = true) :
    ReadsThenWrites sz off ea s (finish s ((modifyEa sz off ea f s).bind fun _ t => advance n t)) := by
  refine ⟨fun v u => (f v u.flags).1, fun v u t => advance n (t.setFlags (f v u.flags).2), ?_, fun v u t => ⟨_, rfl, rfl, rfl⟩⟩
  rw [modifyEa_of_memory hm, Res.bind_assoc]
  simp only [Res.bind_assoc, Res.bind_ok]

theorem bitSize_of_memory {ea : Ea} (hm : isMemory ea = true) : bitSize ea = .byte := by
  cases ea <;> first | rfl | cases hm

theorem bitModify_readsThenWrites {change : Long → Nat → Long} {off bn : Nat} {ea : Ea} {s : State} (hm : isMemory ea = true) :
    ReadsThenWrites .byte off ea s (finish s (bitModify change off bn ea s)) := by
  unfold bitModify
  rw [bitSize_of_memory hm]
  exact modifyEa_readsThenWrites hm

theorem modifyForm_readsThenWrites {i : Instr} {sz : Size} {off : Nat} {ea : Ea} {s : State}
    (hi : modifyForm i = some (sz, off, ea)) (hx : extReady 1 (off - 1) s = true) (hm : isMemory ea = true) :
    ReadsThenWrites sz off ea s (exec i s) := by
  cases i with
  | orDnEa | subDnEa | eor | andDnEa | addDnEa =>
    cases hi
    exact modifyEa_readsThenWrites hm
  | addq | subq =>
    cases hi
    cases ea with
    | areg | imm => cases hm
    | _ => exact modifyEa_readsThenWrites hm
  | bchgReg | bclrReg | bsetReg =>
    cases hi
    exact bitModify_readsThenWrites hm
  | bchgImm b ea | bclrImm b ea | bsetImm b ea =>
    cases hi
    unfold exec
    change ReadsThenWrites _ _ _ _ (finish s ((fetchExt 1 1 s).bind _))
    rw [fetchExt_ok _ _ _ hx, Res.bind_ok]
    exact bitModify_readsThenWrites hm
  | tas =>
    cases hi
    exact ⟨fun v _ => v ||| 0x80#32, fun v _ t => advance _ (t.setFlags (Flags.moveStyle .byte v t.flags)), rfl,
      fun v u t => ⟨_, rfl, rfl, rfl⟩⟩
  | _ => cases hi

section
variable {sz : Size} {off : Nat} {ea : Ea} {s : State} {o : Host.Outcome State Fault Refusal}
  (h : ReadsThenWrites sz off ea s o) (he : eaReady sz off ea s = true)
include h he

theorem ReadsThenWrites.readRefused (hr : eaAllows .read sz ea s = false) :
    o = .next (enter 2#8 s.pc 0xC#4 none (eaUpdate sz ea s)) := by
  obtain ⟨g, k, rfl, -⟩ := h
  rw [eaAddr_ok _ _ _ _ he, Res.bind_ok, loadMem_refused]
  · rfl
  · rw [eaUpdate_refuses]
    exact eaAllows_refused hr

theorem ReadsThenWrites.writeRefused {r : Region} (ha : eaAllows .read sz ea s = true)
    (hr : s.refusing .write (eaAddress sz ea s) sz.bytes = some r) : WriteRefused r s (eaUpdate sz ea s) o := by
  obtain ⟨g, k, rfl, hk⟩ := h
  rw [eaAddr_ok _ _ _ _ he, Res.bind_ok, loadMem_ok, Res.bind_ok]
  · exact storeMem_refused (hk _ _) ((eaUpdate_refusing _ _ _ _ _ _).trans hr) (eaUpdate_cfg _ _ _)
      (eaUpdate_mem _ _ _) (eaUpdate_writeFaults _ _ _)
  · rw [eaUpdate_refuses]
    exact eaAllows_allowed ha

end

/-! The report of a waiting write fault. -/

theorem runInstruction_instr {t : State} {i : Instr} (h : fetchInstr { t with inhibit := false } = .instr i) :
    runInstruction t = traced t.trace (exec i { t with inhibit := false, firstFetch := none }) := by
  rw [runInstruction]
  simp only [h]
  cases exec i { t with inhibit := false, firstFetch := none } <;> rfl

/-- The boundary goes on without a report: the environment's choice is consumed. -/
def State.deferred (s : State) : State := { s with deliver := s.deliver.tail }

theorem State.deferred_pastBoundary (s : State) : s.deferred.pastBoundary = s.pastBoundary.deferred := by
  unfold State.pastBoundary
  rw [show s.deferred.inhibit = s.inhibit from rfl]
  split <;> rfl

theorem State.pastBoundary_deliver (s : State) : s.pastBoundary.deliver = s.deliver := by
  unfold State.pastBoundary
  split <;> rfl

section
variable {s : State} {fs : BitVec 4} {rest : List (BitVec 4)} (hrun : s.run = .running) (hw : s.writeFaults = fs :: rest)
include hrun hw

theorem step_reports (h : s.reportsNow = true) :
    step s = .next (enter 2#8 s.pc fs none { s with irq := s.irq.tail, writeFaults := rest, deliver := s.deliver.tail }) := by
  rw [step, cycle]
  simp only [hrun, runStep, hw, h, if_true, State.passBoundary]

theorem step_defers (h : s.reportsNow = false) : step s = runBoundary s.deferred := by
  rw [step, cycle]
  simp only [hrun, runStep, hw, h, Bool.false_eq_true, if_false, State.deferred]

/-- A boundary that reports nothing goes on with the instruction. -/
theorem step_defers_instr {i : Instr} (h : s.reportsNow = false) (hirq : s.noInterrupt) (hf : fetchInstr s = .instr i) :
    step s = traced s.trace
      (exec i { s.pastBoundary with deliver := s.deliver.tail, inhibit := false, firstFetch := none }) := by
  have hd : s.deferred.noInterrupt := hirq
  have hfetch : fetchInstr { s.pastBoundary.deferred with inhibit := false } = .instr i :=
    (fetchInstr_pastBoundary s).trans hf
  rw [step_defers hrun hw h, runBoundary_noInterrupt _ hd, State.deferred_pastBoundary, runInstruction_instr hfetch,
    ← s.pastBoundary_deliver]
  exact congrArg (traced · _) (State.pastBoundary_trace s)

end

theorem reportsNow_of {s : State} (h : s.deliver = [] ∨ s.deliver.head? = some true ∨
    ∃ i, recognized s = some i ∧ synchronizes i = true) : s.reportsNow = true := by
  rw [State.reportsNow, Bool.or_eq_true]
  rcases h with h | h | ⟨i, hi, hs⟩
  · exact .inl (by rw [h]; rfl)
  · exact .inl (by rw [h]; rfl)
  · exact .inr (by rw [nextSynchronizes, hi]; exact hs)

theorem not_reportsNow {s : State} {i : Instr} (hd : s.deliver.head? = some false) (hi : recognized s = some i)
    (hs : synchronizes i = false) : s.reportsNow = false := by
  rw [State.reportsNow, hd, nextSynchronizes, hi]
  exact hs

/-- Settles O51: each refused access is the first thing that fails. -/
theorem accessErrors : Obligations.AccessErrors := by
  refine ⟨fun n ea s => ⟨exec_moveL_read, fun r hea he hr => ?_⟩, fun i s r hi hr => exec_pushes_refused hi hr,
    fun mask ea s k hb hx he hk => ?_, fun i sz off ea s hi hx he => ?_, fun s fs rest hrun hw => ⟨fun h => ?_, ?_⟩⟩
  · have hwrite := exec_moveL_write (n := n) (isMemory_of_eaReady he) he
    have hr' := (eaUpdate_refusing .long ea s .write _ _).trans hr
    refine ⟨fun hp => ?_, fun hi => ?_⟩
    · rw [hwrite, storeMem_precise _ _ _ _ _ hr' ((congrArg _ (eaUpdate_cfg _ _ _)).trans hp)]
      rfl
    · rw [hwrite, storeMem_imprecise _ _ _ _ _ hr' ((congrArg _ (eaUpdate_cfg _ _ _)).trans hi)]
      refine ⟨_, rfl, ?_, ?_, ?_⟩
      · exact eaUpdate_mem _ _ _
      · exact congrArg (· ++ [writeStatus r]) (eaUpdate_writeFaults _ _ _)
      · exact congrArg (· + _) (eaUpdate_pc _ _ _)
  · have hlen : ((maskRegs mask).take k).length = k := List.length_take_of_le hk.le
    have hle : ((maskRegs mask).take k).length ≤ 16 := hlen.le.trans (hk.le.trans (maskRegs_length mask))
    have taken {j : Nat} {q : Fin 16} (hj : j < k) (hq : (maskRegs mask)[j]? = some q) :
        ((maskRegs mask).take k)[j]? = some q := by
      rwa [List.getElem?_take_of_lt hj]
    refine ⟨fun r hok hr hp => ?_, fun hok hr => ?_⟩
    · obtain ⟨frame, hsr⟩ := storedRegs_keeps hle (eaAddress .long ea s) s
      refine ⟨_, exec_movemStore_refused hb hx he hk hok hr hp, fun j q hj hq => storedRegs_load hle (taken hj hq), ?_, hsr,
        storedRegs_pc _ _ _⟩
      have hzero : eaAddress .long ea s + BitVec.ofNat 32 (4 * 0) = eaAddress .long ea s := longAt_zero _
      rw [hlen] at frame
      simp only [hzero]
      exact frame
    · have only := loadedRegs_registersOnly ((maskRegs mask).take k) (eaAddress .long ea s) s
      exact ⟨_, exec_movemLoad_refused hb hx he hk hok hr,
        fun j q hj hq => loadedRegs_getR ((maskRegs_nodup mask).sublist (List.take_sublist _ _)) (taken hj hq),
        fun q hq => loadedRegs_outside hq, only.mem, only.sr, only.control, only.otherSp, only.pc⟩
  · have h := modifyForm_readsThenWrites hi hx (isMemory_of_eaReady he)
    exact ⟨h.readRefused he, fun r => h.writeRefused he⟩
  · exact step_reports hrun hw (reportsNow_of h)
  · intro i ws hd hirq ho hdec ha hs
    rw [step_defers_instr hrun hw (not_reportsNow hd (recognized_of_decode hdec ha) hs) hirq (fetchInstr_of_decode ho hdec ha)]
    rfl

end Sys2Proof.Machine
end

section
/-! PROOFS. Address errors and faults of fetches (spec 40_addressing_modes.md R128; 20_memory.md R77; 60_exceptions.md R376, R382,
R396, R397): what the first words of an instruction come to decides what the instruction comes to. -/

namespace Sys2Proof.Machine

-- One theorem after another: elaborating them side by side takes a thread each, and no less time.
set_option Elab.async false

/-! A part that decides. -/

/-- Where the part `p` raises or stops, `r` does the same. -/
structure Res.Decides {α β : Type} (p : Res α) (r : Res β) : Prop where
  raise : ∀ e t, p = .raise e t → r = .raise e t
  refuse : ∀ f, p = .refuse f → r = .refuse f

section
variable {α β γ : Type}

theorem Res.Decides.refl (p : Res α) : p.Decides p := ⟨fun _ _ h => h, fun _ h => h⟩

theorem Res.Decides.trans {p : Res α} {q : Res β} {r : Res γ} (h : p.Decides q) (g : q.Decides r) : p.Decides r :=
  ⟨fun e t hp => g.raise e t (h.raise e t hp), fun f hp => g.refuse f (h.refuse f hp)⟩

theorem Res.decides_of_ok (x : α) (t : State) (r : Res β) : (Res.ok x t).Decides r where
  raise _ _ h := by cases h
  refuse _ h := by cases h

theorem Res.raise_decides (e : Exc) (t : State) : (Res.raise e t : Res α).Decides (Res.raise e t : Res β) where
  raise _ _ h := by
    cases h
    rfl
  refuse _ h := by cases h

theorem Res.refuse_decides (f : Refusal) : (Res.refuse f : Res α).Decides (Res.refuse f : Res β) where
  raise _ _ h := by cases h
  refuse _ h := by
    cases h
    rfl

theorem Res.Decides.bind {p : Res α} {r : Res β} (h : p.Decides r) (k : β → State → Res γ) : p.Decides (r.bind k) where
  raise e t hp := by
    rw [h.raise e t hp]
    rfl
  refuse f hp := by
    rw [h.refuse f hp]
    rfl

theorem Res.decides_bind (p : Res α) (k : α → State → Res β) : p.Decides (p.bind k) := (Res.Decides.refl p).bind k

/-- The same words fetched before both. -/
theorem Res.Decides.fetch {off n : Nat} {s : State} {q : State → Res α} {r : Unit → State → Res β}
    (h : (q s).Decides (r () s)) : ((fetchExt off n s).bind fun _ t => q t).Decides ((fetchExt off n s).bind r) := by
  rcases fetchExt_cases off n s with g | g | g <;> rw [g]
  · exact h
  · exact Res.raise_decides _ _
  · exact Res.refuse_decides _

end

/-! The words of an effective address. -/

/-- The extension words of an effective address and the check of an index word. -/
def eaStart (sz : Size) (off : Nat) (ea : Ea) (s : State) : Res Unit :=
  (fetchExt off (eaWords sz ea) s).bind fun _ t => if badExtension t.cfg ea then .raise .addressError t else .ok () t

section
variable {sz : Size} {off : Nat} {ea : Ea} {s : State}

theorem eaStart_decides_eaAddr (hi : ∀ v, ea ≠ .imm v) : (eaStart sz off ea s).Decides (eaAddr sz off ea s) := by
  unfold eaAddr eaStart
  rcases isMemory_cases ea with hm | ⟨n, rfl⟩ | ⟨n, rfl⟩ | ⟨v, rfl⟩
  · rw [if_pos hm]
    refine Res.Decides.fetch ?_
    split
    · exact Res.raise_decides _ _
    · exact Res.decides_of_ok _ _ _
  · exact Res.decides_of_ok () s _
  · exact Res.decides_of_ok () s _
  · exact absurd rfl (hi v)

theorem eaStart_decides_readEa : (eaStart sz off ea s).Decides (readEa sz off ea s) := by
  rcases isMemory_cases ea with hm | ⟨n, rfl⟩ | ⟨n, rfl⟩ | ⟨v, rfl⟩
  · rw [readEa_of_memory hm]
    refine (eaStart_decides_eaAddr ?_).bind _
    rintro v rfl
    cases hm
  · exact Res.decides_of_ok () s _
  · exact Res.decides_of_ok () s _
  · exact Res.Decides.fetch (Res.decides_of_ok () s _)

theorem eaStart_decides_writeEa {v : Long} (hi : ∀ w, ea ≠ .imm w) : (eaStart sz off ea s).Decides (writeEa sz off ea v s) := by
  rcases isMemory_cases ea with hm | ⟨n, rfl⟩ | ⟨n, rfl⟩ | ⟨w, rfl⟩
  · rw [writeEa_of_memory hm]
    exact (eaStart_decides_eaAddr hi).bind _
  · exact Res.decides_of_ok () s _
  · exact Res.decides_of_ok () s _
  · exact absurd rfl (hi w)

theorem eaStart_decides_modifyEa {f : Long → Flags → Long × Flags} (hi : ∀ w, ea ≠ .imm w) :
    (eaStart sz off ea s).Decides (modifyEa sz off ea f s) := by
  rcases isMemory_cases ea with hm | ⟨n, rfl⟩ | ⟨n, rfl⟩ | ⟨w, rfl⟩
  · rw [modifyEa_of_memory hm]
    exact (eaStart_decides_eaAddr hi).bind _
  · exact Res.decides_of_ok () s _
  · exact Res.decides_of_ok () s _
  · exact absurd rfl (hi w)

theorem eaStart_bitSize : eaStart (bitSize ea) off ea s = eaStart .byte off ea s := by
  cases ea <;> rfl

theorem eaStart_decides_bitTest {bn : Nat} : (eaStart .byte off ea s).Decides (bitTest off bn ea s) := by
  rw [← eaStart_bitSize]
  exact eaStart_decides_readEa.bind _

theorem eaStart_decides_bitModify {change : Long → Nat → Long} {bn : Nat} (hi : ∀ w, ea ≠ .imm w) :
    (eaStart .byte off ea s).Decides (bitModify change off bn ea s) := by
  rw [← eaStart_bitSize]
  exact (eaStart_decides_modifyEa hi).bind _

/-- Words in a row. -/
theorem extReady_append {off m n : Nat} {s : State} (h : extReady off (m + n) s = true) :
    extReady off m s = true ∧ extReady (off + m) n s = true := by
  simp only [extReady, List.all_eq_true, List.mem_range] at h ⊢
  refine ⟨fun i hi => h i (by omega), fun i hi => ?_⟩
  rw [Nat.add_assoc]
  exact h (m + i) (by omega)

/-- A bad index word. -/
theorem eaStart_addressError {w : Word} (hea : ea = .pcIndex w ∨ ∃ ax, ea = .index ax w) (hw : badIndexWord s.cfg w = true)
    (hx : extReady off 1 s = true) : eaStart sz off ea s = .raise .addressError s := by
  rcases hea with rfl | ⟨ax, rfl⟩ <;> exact
    (congrArg (Res.bind · _) (fetchExt_ok off 1 s hx)).trans (if_pos hw)

end

/-! The words an instruction starts with. -/

/-- The words of an instruction up to those of its first effective address, `own` words coming before these. -/
def leadingPart (own : Nat) (sz : Size) (ea : Ea) (s : State) : Res Unit :=
  (fetchExt 1 own s).bind fun _ t => eaStart sz (1 + own) ea t

theorem fetchExt_decides_leadingPart (own : Nat) (sz : Size) (ea : Ea) (s : State) :
    (fetchExt 1 (eaWords sz ea + own) s).Decides (leadingPart own sz ea s) := by
  rw [Nat.add_comm, fetchExt_append]
  exact Res.Decides.fetch (Res.decides_bind _ _)

theorem leadingPart_decides_toEa {v : Long} {ea : Ea} {f : Long → Long → Flags → Long × Flags} {s : State}
    (hi : ∀ w, ea ≠ .imm w) : (leadingPart 0 .long ea s).Decides (toEa v ea f s) :=
  (eaStart_decides_modifyEa hi).bind _

/-- What the part comes to where it raises or stops is what the instruction comes to. -/
def Starts (p : Res Unit) (s : State) (o : Host.Outcome State Fault Refusal) : Prop :=
  ∃ s0 r, o = finish s0 r ∧ s0.pc = s.pc ∧ p.Decides r

theorem Res.Decides.starts {p r : Res Unit} {s : State} (h : p.Decides r) : Starts p s (finish s r) := ⟨s, r, rfl, rfl, h⟩

theorem Starts.refused {p : Res Unit} {s u : State} {fs : BitVec 4} {o : Host.Outcome State Fault Refusal} (h : Starts p s o)
    (hp : p = .raise (.accessError fs) u) : o = .next (enter 2#8 s.pc fs none u) := by
  obtain ⟨s0, r, rfl, hpc, hr⟩ := h
  rw [hr.raise _ _ hp, ← hpc]
  rfl

theorem Starts.stopped {p : Res Unit} {s : State} {f : Refusal} {o : Host.Outcome State Fault Refusal} (h : Starts p s o)
    (hp : p = .refuse f) : o = .refused f := by
  obtain ⟨s0, r, rfl, -, hr⟩ := h
  rw [hr.refuse _ hp]
  rfl

/-- Instructions with an effective address, MOVE to SR apart, which synchronizes. -/
theorem exec_leadingEa {i : Instr} {own : Nat} {sz : Size} {ea : Ea} (s : State) (hw : i.wf = true)
    (hi : leadingEa i = some (own, sz, ea)) (hsr : ∀ e, i ≠ .moveToSr e) :
    ∃ r, exec i s = finish s r ∧ (leadingPart own sz ea s).Decides r := by
  cases i with
  | btstImm =>
    cases hi
    exact ⟨_, rfl, Res.Decides.fetch eaStart_decides_bitTest⟩
  | bchgImm | bclrImm | bsetImm =>
    cases hi
    exact ⟨_, rfl, Res.Decides.fetch (eaStart_decides_bitModify (ne_imm_of_dataAlterable (dataAlterable_of_short hw)))⟩
  | btstReg =>
    cases hi
    exact ⟨_, rfl, eaStart_decides_bitTest⟩
  | bchgReg | bclrReg | bsetReg =>
    cases hi
    exact ⟨_, rfl, eaStart_decides_bitModify (ne_imm_of_dataAlterable hw)⟩
  | tas =>
    cases hi
    exact ⟨_, rfl, (eaStart_decides_eaAddr (ne_imm_of_dataAlterable (dataAlterable_of_memoryAlterable hw))).bind _⟩
  | moveToSr e => exact absurd rfl (hsr e)
  | moveB | moveW | moveL | moveaW | moveaL | moveToCcr | cmpaW | cmpaL | suba | adda | tst | cmp | wddata | divuW | divsW =>
    cases hi
    exact ⟨_, rfl, eaStart_decides_readEa.bind _⟩
  | muluW | mulsW | orEaDn | subEaDn | andEaDn | addEaDn | mvs | mvz =>
    cases hi
    exact ⟨_, rfl, (eaStart_decides_readEa.bind _).bind _⟩
  | lea | pea | jsr | jmp =>
    cases hi
    refine ⟨_, rfl, (eaStart_decides_eaAddr ?_).bind _⟩
    rintro v rfl
    cases hw
  | addq q =>
    cases hi
    by_cases ha : ∃ n, ea = .areg n
    · obtain ⟨n, rfl⟩ := ha
      exact ⟨advance 1 _, rfl, Res.decides_of_ok () s _⟩
    · exact ⟨_, exec_addq (fun n he => ha ⟨n, he⟩) q s, leadingPart_decides_toEa (ne_imm_of_alterable hw)⟩
  | subq q =>
    cases hi
    by_cases ha : ∃ n, ea = .areg n
    · obtain ⟨n, rfl⟩ := ha
      exact ⟨advance 1 _, rfl, Res.decides_of_ok () s _⟩
    · exact ⟨_, exec_subq (fun n he => ha ⟨n, he⟩) q s, leadingPart_decides_toEa (ne_imm_of_alterable hw)⟩
  | eor =>
    cases hi
    exact ⟨_, rfl, leadingPart_decides_toEa (ne_imm_of_dataAlterable hw)⟩
  | orDnEa | subDnEa | andDnEa | addDnEa =>
    cases hi
    exact ⟨_, rfl, leadingPart_decides_toEa (ne_imm_of_dataAlterable (dataAlterable_of_memoryAlterable hw))⟩
  | mov3q =>
    cases hi
    exact ⟨_, rfl, (eaStart_decides_writeEa (ne_imm_of_alterable hw)).bind _⟩
  | clr =>
    cases hi
    exact ⟨_, rfl, (eaStart_decides_writeEa (ne_imm_of_dataAlterable hw)).bind _⟩
  | movemStore | movemLoad =>
    cases hi
    refine ⟨_, rfl, Res.Decides.fetch ((eaStart_decides_eaAddr ?_).bind _)⟩
    rintro v rfl
    cases hw
  | muluL | mulsL =>
    cases hi
    exact ⟨_, rfl, Res.Decides.fetch ((eaStart_decides_readEa.bind _).bind _)⟩
  | divuL | divsL | remuL | remsL =>
    cases hi
    exact ⟨_, rfl, Res.Decides.fetch (eaStart_decides_readEa.bind _)⟩
  | _ => cases hi

theorem synchronizing_starts {n : Nat} {s : State} {k : State → Res Unit} (h : s.supervisor = true) :
    Starts (fetchExt 1 n s) s (synchronizing n s k) := by
  refine ⟨s.synced, _, rfl, rfl, ?_⟩
  rw [privileged_supervisor h]
  exact Res.decides_bind _ _

/-- The words counted by `leadingWords` decide first. -/
theorem exec_leadingWords {i : Instr} {s : State} (hw : i.wf = true) (hp : isPrivileged i = true → s.supervisor = true)
    (h0 : 0 < leadingWords i) : Starts (fetchExt 1 (leadingWords i) s) s (exec i s) := by
  cases hi : leadingEa i with
  | some x =>
    obtain ⟨own, sz, ea⟩ := x
    have hn : leadingWords i = eaWords sz ea + own := by
      unfold leadingWords
      simp only [hi]
    rw [hn]
    by_cases hsr : ∃ e, i = .moveToSr e
    · obtain ⟨e, rfl⟩ := hsr
      cases hi
      unfold exec
      exact synchronizing_starts (n := eaWords .word ea) (hp rfl)
    · obtain ⟨r, hr, hd⟩ := exec_leadingEa s hw hi fun e he => hsr ⟨e, he⟩
      rw [hr]
      exact ((fetchExt_decides_leadingPart own sz ea s).trans hd).starts
  | none =>
    cases i with
    | oriL | andiL | subiL | addiL | eoriL => exact (Res.decides_bind (fetchExt 1 2 s) _).starts
    | tpfL => exact (Res.decides_bind (fetchExt 1 2 s) _).starts
    | cmpi sz v => exact (Res.decides_bind (fetchExt 1 (eaWords sz (.imm v)) s) _).starts
    | link | tpfW => exact (Res.decides_bind (fetchExt 1 1 s) _).starts
    | bra d | bsr d | bcc _ d => exact (Res.decides_bind (fetchExt 1 (dispWords d) s) _).starts
    | stop | movec =>
      unfold exec
      exact synchronizing_starts (n := 1) (hp rfl)
    | stldsr =>
      change Starts (fetchExt 1 2 s) s (finish s (privileged s _))
      rw [privileged_supervisor (hp rfl)]
      exact (Res.decides_bind (fetchExt 1 2 s) _).starts
    | bitrev | byterev | ff1 | negx | neg | not | swap | extW | extL | extbL | sats | moveFromSr | moveFromCcr | halt | pulse
    | illegal | trap | unlk | moveToUsp | moveFromUsp | nop | rte | rts | scc | tpf | moveq | subx | addx | asl | asr | lsl | lsr
    | cpushl | intouch | wdebug => exact absurd h0 (Nat.lt_irrefl 0)
    | _ => cases hi

/-! MOVE's destination. -/

theorem eaUpdate_dirty (sz : Size) (ea : Ea) (s : State) (a : Long) : (eaUpdate sz ea s).dirty a = s.dirty a := by
  cases ea <;> simp [eaUpdate, State.dirty]

theorem eaUpdate_extReady {sz : Size} {ea : Ea} {s : State} {off n : Nat} :
    extReady off n (eaUpdate sz ea s) = extReady off n s := by
  simp only [extReady, eaUpdate_refuses, eaUpdate_pc, eaUpdate_dirty]

theorem exec_moveInstr_destination {sz : Size} {src dst : Ea} {s : State} (hd : dst.dataAlterable = true)
    (hs : sourceReady sz 1 src s = true) :
    Starts (eaStart sz (1 + eaWords sz src) dst (eaUpdate sz src s)) s (exec (moveInstr sz src dst) s) := by
  rw [exec_moveInstr, moveOp, readEa_ok sz 1 src s hs, Res.bind_ok]
  exact ((eaStart_decides_writeEa (ne_imm_of_dataAlterable hd)).bind _).starts

/-! The boundary. -/

/-- Without an open exception processing an instruction starts with the boundary past and the inhibition ended. -/
theorem State.started_of_firstFetch {s : State} (h : s.firstFetch = none) :
    s.started = { s.pastBoundary with inhibit := false } := by
  have hp : s.pastBoundary.firstFetch = none := by
    unfold State.pastBoundary
    split <;> exact h
  exact congrArg (fun f => ({ s.pastBoundary with inhibit := false, firstFetch := f } : State)) hp.symm

theorem fetchInstr_odd {s : State} (h : s.pc.getLsbD 0 = true) : fetchInstr s = opwordFault s .addressError := if_pos h

theorem fetchInstr_refused {s : State} (h : s.pc.getLsbD 0 = false) (hf : s.refuses .fetch s.pc 2 = true) :
    fetchInstr s = opwordFault s (.accessError 4#4) := by
  rw [fetchInstr, h, hf]
  rfl

theorem fetchInstr_dirty {s : State} (h : s.pc.getLsbD 0 = false) (hf : s.refuses .fetch s.pc 2 = false)
    (hd : s.dirty s.pc = true) : fetchInstr s = .refuse .selfModified := by
  rw [fetchInstr, h, hf, hd]
  rfl

section
variable {s : State} (ho : s.opwordReady) (hn : needsSecondWord (s.word s.pc).toNat = true)
include ho hn

theorem fetchInstr_second : fetchInstr s =
    if s.refuses .fetch (s.pc + 2#32) 2 then .raise (.accessError 4#4)
    else if s.dirty (s.pc + 2#32) then .refuse .selfModified else recognize s := by
  obtain ⟨hodd, hf, hd⟩ := ho
  rw [fetchInstr, hodd, hf, hd, fetchSecond, if_pos hn]
  rfl

end

section
variable {s : State} (hrun : s.run = .running) (hfaults : s.writeFaults = []) (hirq : s.noInterrupt)
include hrun hfaults hirq

/-- A fault on the fetch of the opword is an exception, or the core halts inside the exception processing that led here. -/
theorem step_opwordFault {e : Exc} (h : fetchInstr s = opwordFault s e) :
    (s.firstFetch = none → step s = .next (enter e.vector (e.stackedPc s.pc) (e.faultStatus s.cfg) none
      { s.pastBoundary with inhibit := false })) ∧
    (∀ v, s.firstFetch = some v →
      step s = .next { s.pastBoundary with inhibit := false, run := .halted (.faultOnFault v e.vector) }) := by
  refine ⟨fun hn => ?_, fun v hv => ?_⟩
  · rw [opwordFault, hn] at h
    rw [step_of_raise (e := e) hrun hfaults hirq h, State.started_of_firstFetch hn]
  · rw [opwordFault, hv] at h
    exact step_of_dead hrun hfaults hirq h

end

theorem badIndexWord_of {cfg : Config} {w : Word}
    (h : w.getLsbD 11 = false ∨ w.getLsbD 8 = true ∨ (w.extractLsb' 9 2 = 3#2 ∧ cfg.hasFpu = false)) :
    badIndexWord cfg w = true := by
  rcases h with h | h | ⟨h, g⟩
  · rw [badIndexWord, h]
    rfl
  · rw [badIndexWord, h, Bool.or_true, Bool.true_or]
  · rw [badIndexWord, h, g]
    exact Bool.or_true _

theorem leadingPart_addressError {own : Nat} {sz : Size} {ea : Ea} {w : Word} {s : State}
    (hea : ea = .pcIndex w ∨ ∃ ax, ea = .index ax w) (hw : badIndexWord s.cfg w = true)
    (hx : extReady 1 (own + 1) s = true) : leadingPart own sz ea s = .raise .addressError s := by
  obtain ⟨hown, hword⟩ := extReady_append hx
  rw [leadingPart, fetchExt_ok _ _ _ hown, Res.bind_ok, eaStart_addressError hea hw hword]

/-- Settles O52: the first part that fails decides, at the boundary, in the instruction's own words and in MOVE's destination. -/
theorem fetchAndAddressErrors : Obligations.FetchAndAddressErrors := by
  refine ⟨fun w s hw => ⟨fun i own sz ea hwf hi hea hx => ?_, fun sz src ax hs hx => ?_⟩, fun s hrun hfaults hirq => ?_,
    fun i s k hwf hp hk hx => ?_, fun sz src dst s k hd hs hk hx => ?_⟩
  · have hsr (e : Ea) : i ≠ .moveToSr e := by
      rintro rfl
      cases hi
      rcases hea with rfl | ⟨ax, rfl⟩ <;> cases hwf
    obtain ⟨r, hr, hdec⟩ := exec_leadingEa s hwf hi hsr
    rw [hr, hdec.raise _ _ (leadingPart_addressError hea (badIndexWord_of hw) hx)]
    rfl
  · have hu : (eaUpdate sz src s).cfg = s.cfg := eaUpdate_cfg _ _ _
    rw [← eaUpdate_extReady (sz := sz) (ea := src)] at hx
    have hbad : badIndexWord (eaUpdate sz src s).cfg w = true := hu.symm ▸ badIndexWord_of hw
    rw [exec_moveInstr, moveOp, readEa_ok sz 1 src s hs, Res.bind_ok,
      ((eaStart_decides_writeEa (ne_imm_of_dataAlterable rfl)).bind _).raise _ _ (eaStart_addressError (.inr ⟨ax, rfl⟩) hbad hx)]
    rfl
  · refine ⟨fun hodd => step_opwordFault (e := .addressError) hrun hfaults hirq (fetchInstr_odd hodd),
      fun hodd hf => step_opwordFault (e := .accessError 4#4) hrun hfaults hirq (fetchInstr_refused hodd hf),
      fun hodd hf hd => step_of_refuse hrun hfaults hirq (fetchInstr_dirty hodd hf hd),
      fun ho hn => ⟨fun hf => ?_, fun hf hd => ?_⟩⟩
    · exact step_of_raise (e := .accessError 4#4) hrun hfaults hirq ((fetchInstr_second ho hn).trans (if_pos hf))
    · refine step_of_refuse hrun hfaults hirq ((fetchInstr_second ho hn).trans ?_)
      rw [hf, hd]
      rfl
  · have h := exec_leadingWords hwf hp (Nat.zero_lt_of_lt hk)
    exact ⟨fun hf => h.refused (fetchExt_refused 1 _ k s hk hx hf),
      fun hf hdirty => h.stopped (fetchExt_dirty 1 _ k s hk hx hf hdirty)⟩
  · have h := exec_moveInstr_destination (dst := dst) hd hs
    rw [← eaUpdate_extReady (sz := sz) (ea := src)] at hx
    refine ⟨fun hf => h.refused ?_, fun hf hdirty => h.stopped ?_⟩
    · rw [eaStart, fetchExt_refused _ _ k _ hk hx]
      · rfl
      · rwa [eaUpdate_refuses, eaUpdate_pc]
    · rw [eaStart, fetchExt_dirty _ _ k _ hk hx]
      · rfl
      · rwa [eaUpdate_refuses, eaUpdate_pc]
      · rwa [eaUpdate_dirty, eaUpdate_pc]

end Sys2Proof.Machine
end
